-- ==== Sys2Proof/Word.lean ====
section
/-! DEFINITION. The bit-vector types of the DShot reader core (`00_scope.md` rule R10: every quantity is unsigned). -/

namespace Sys2Proof

/-- A Raw Frame Word, 16 bits, most significant bit first on the wire (R41, R48). -/
abbrev Word := BitVec 16

/-- The 12-bit slice `throttle_and_tm` of a word (R48, R87). -/
abbrev Field := BitVec 12

/-- An 11-bit throttle value (R48, R91). -/
abbrev Throttle := BitVec 11

/-- A 4-bit checksum (R48, R86, R88). -/
abbrev Nibble := BitVec 4

end Sys2Proof
end

