-- ==== Sys2Proof/Config.lean ====
section
/-! DEFINITION. What one build fixes (`00_scope.md` rule R7) and the values the model leaves free. -/

namespace Sys2Proof

/-- The build variant (R1, R57): a build-time selector. -/
inductive Variant where
  | uni
  | bidir
  deriving DecidableEq, Repr, Inhabited

/-- The constants of one build (R7). `QPOLICY` is fixed (drop-oldest, D17) and `CLKDIV` and `F_TICK` stand outside
the step (R9), so they have no field. The four start values are numbers below `2 ^ CW`, so they are vectors of `CW`
bits. `window` and `delayResp` mean nothing when `variant` is `uni` (R77). -/
structure Config where
  /-- `VARIANT` -/
  variant : Variant
  /-- `CW`: width in bits of the three countdown registers -/
  cw : Nat
  /-- `GUARD`: start value of the guard countdown, in ticks (R63) -/
  guard : BitVec cw
  /-- `DELAY`: ticks between the observed falling edge and the sample (R65) -/
  delay : BitVec cw
  /-- `WINDOW`: start value of the capture window, in ticks (R71); `bidir` only -/
  window : BitVec cw
  /-- `DELAY_RESP`: the longer delay before the response sample, in ticks (R74); `bidir` only -/
  delayResp : BitVec cw
  /-- `QDEPTH`: capacity of the word queue (R33) -/
  qdepth : Nat
  deriving DecidableEq, Repr, Inhabited

/-- The constraints R7 puts on the constants of a build. That every start value is below `2 ^ CW` is in their type. -/
def Config.wf (c : Config) : Bool :=
  decide (1 ≤ c.cw) && decide (1 ≤ c.qdepth) && (decide (c.variant = .uni) || decide (c.delay < c.delayResp))

/-- The longest delay a build can load into `dly`: `DELAY` in a `uni` build, which has no `DELAY_RESP`, and
`max(DELAY, DELAY_RESP)` in a `bidir` build (R29 h). -/
def Config.maxDelay (c : Config) : Nat :=
  match c.variant with
  | .uni => c.delay.toNat
  | .bidir => max c.delay.toNat c.delayResp.toNat

/-- The smallest build R7 allows. It stands in for `Config.unknown` where that is no legal build, and nowhere else. -/
def Config.smallest : Config :=
  { variant := .uni, cw := 1, guard := 0#_, delay := 0#_, window := 0#_, delayResp := 1#_, qdepth := 1 }

/-- Constants nothing is known about: R7 gives every parameter the value OPEN (log entry 1). -/
opaque Config.unknown : Config

/-- The build of `State.reset`: some build R7 allows, and no statement can tell which (log entry 1). -/
def Config.build : Config :=
  if Config.unknown.wf then Config.unknown else Config.smallest

/-- The levels the environment drives on the three input ports in one tick (R13). -/
structure Pins where
  /-- synchronous reset, active at 1 (R119) -/
  rst : Bool
  /-- the Digital Line State, `true` is high (R13, R46) -/
  line : Bool
  /-- 1 = the Dispatch agent takes a step this tick (R96) -/
  poll : Bool
  deriving DecidableEq, Repr, Inhabited

/-- What the environment drives in tick number `n` where no stimulus says it: free inputs chosen by the environment
(R12, R96; log entry 2). -/
opaque Config.freePins : Nat → Pins

end Sys2Proof
end

