-- ==== Sys2Proof/Syntax.lean ====
section
/-! DEFINITION. The fifteen operations of the core, one constructor per row of `spec/opcode_table.json` (R55), and
the five formats a selector code comes in (R47). -/

namespace Sys2Proof

/-- A Bit Cell, one classified symbol (R49). -/
inductive Cell where
  | zero
  | one
  | reset
  deriving DecidableEq, Repr, Inhabited

/-- Where a cell was classified: from the host's pulse or in the response capture (R11, R67). -/
inductive Source where
  | host
  | resp
  deriving DecidableEq, Repr, Inhabited

/-- The five formats (R47). -/
inductive Format where
  | seq
  | cell
  | frame
  | disp
  | rst
  deriving DecidableEq, Repr

/-- A code as it is presented to the block that decodes it (R47). The five formats have no common tag: which block
looks at the bits says which format they are. -/
inductive Code where
  /-- `{st[2:0], cph[1:0]}` (R50) -/
  | seq (w : BitVec 5)
  /-- `{reset flag, bit value}` (R49) -/
  | cell (w : BitVec 2)
  /-- a Raw Frame Word (R48) -/
  | frame (w : Word)
  /-- `{poll, q_avail}` (R51) -/
  | disp (w : BitVec 2)
  /-- the `rst` input (R52) -/
  | rst (w : BitVec 1)
  deriving DecidableEq, Repr

/-- The format of a code. -/
def Code.format : Code → Format
  | .seq _ => .seq
  | .cell _ => .cell
  | .frame _ => .frame
  | .disp _ => .disp
  | .rst _ => .rst

/-- The bits of a code as a number, bit 0 the least significant one (R10). -/
def Code.bits : Code → Nat
  | .seq w => w.toNat
  | .cell w => w.toNat
  | .frame w => w.toNat
  | .disp w => w.toNat
  | .rst w => w.toNat

/-- The operations (R55). Only `decode` has an operand of its own; the others read ports and registers. -/
inductive Instr where
  /-- `HUNT_RESET` (R62) -/
  | huntReset
  /-- `WAIT_RISE` (R63) -/
  | waitRise
  /-- `WAIT_FALL` (R64) -/
  | waitFall
  /-- `SAMPLE` (R65) -/
  | sample
  /-- `CAP_WAIT_LOW` (R72), BIDIR only -/
  | capWaitLow
  /-- `CAP_WAIT_HIGH` (R73), BIDIR only -/
  | capWaitHigh
  /-- `CAP_DELAY` (R74), BIDIR only -/
  | capDelay
  /-- `PUSH_ZERO` (R80) -/
  | pushZero
  /-- `PUSH_ONE` (R81) -/
  | pushOne
  /-- `PUSH_RESET` (R82) -/
  | pushReset
  /-- `DECODE` of a Raw Frame Word (R85) -/
  | decode (w : Word)
  /-- `DISP_IDLE` (R97) -/
  | dispIdle
  /-- `DISP_POLL_EMPTY` (R98) -/
  | dispPollEmpty
  /-- `DISP_POP` (R99) -/
  | dispPop
  /-- `RST` (R119) -/
  | rst
  deriving DecidableEq, Repr

end Sys2Proof
end

