-- ==== Sys2Proof/Decode.lean ====
section
/-! DEFINITION. The decoders of the five formats (`30_encoding.md` rules R47 to R52), the encoder, and the reading of
the host's byte-sized table words. -/

namespace Sys2Proof

/-- Why a code selects no operation. -/
inductive Reject where
  /-- `st` in 5 to 7, or `st = 4` with `cph = 3`: an unreachable position, to which the spec gives no behaviour (R56 c). -/
  | unreachablePosition
  /-- `rst = 0`: selects nothing (R52). -/
  | nothingSelected
  deriving DecidableEq, Repr

/-- What a decoder answers. -/
inductive Decoded where
  | ok (i : Instr)
  | reject (r : Reject)
  deriving DecidableEq, Repr

/-- Format `SEQ` (R50): `st` in bits 4 to 2, `cph` in bits 1 to 0. `cph` is looked at only when `st` is 4. -/
def decodeSeq (w : BitVec 5) : Decoded :=
  let st := w.extractLsb' 2 3
  let cph := w.extractLsb' 0 2
  if st = 0#3 then .ok .huntReset
  else if st = 1#3 then .ok .waitRise
  else if st = 2#3 then .ok .waitFall
  else if st = 3#3 then .ok .sample
  else if st = 4#3 then
    if cph = 0#2 then .ok .capWaitLow
    else if cph = 1#2 then .ok .capWaitHigh
    else if cph = 2#2 then .ok .capDelay
    else .reject .unreachablePosition
  else .reject .unreachablePosition

/-- Format `CELL` (R49): bit 1 is the reset flag, bit 0 the bit value; `11` is an alias of RESET (R56 b, R78). -/
def decodeCell (w : BitVec 2) : Decoded :=
  if w.getLsbD 1 then .ok .pushReset
  else if w.getLsbD 0 then .ok .pushOne
  else .ok .pushZero

/-- Format `FRAME` (R48): every one of the 65536 words is legal (R56 a). -/
def decodeFrameCode (w : Word) : Decoded := .ok (.decode w)

/-- Format `DISP` (R51): bit 1 is `poll`, bit 0 is `q_avail`, which is looked at only when `poll` is 1. -/
def decodeDisp (w : BitVec 2) : Decoded :=
  if w.getLsbD 1 then
    if w.getLsbD 0 then .ok .dispPop else .ok .dispPollEmpty
  else .ok .dispIdle

/-- Format `RST` (R52): 1 selects `RST`, 0 selects nothing. -/
def decodeRst (w : BitVec 1) : Decoded :=
  if w.getLsbD 0 then .ok .rst else .reject .nothingSelected

/-- The decoder: total on every code of every format (R47). -/
def decode : Code → Decoded
  | .seq w => decodeSeq w
  | .cell w => decodeCell w
  | .frame w => decodeFrameCode w
  | .disp w => decodeDisp w
  | .rst w => decodeRst w

/-- The encoder: the code the tables of R48 to R52 give for an operation. Bits a table leaves open (`cph` outside the
capture, `q_avail` under `poll = 0`, the bit value of RESET) are 0 (log entry 8). -/
def encode : Instr → Code
  | .huntReset => .seq 0b00000#5
  | .waitRise => .seq 0b00100#5
  | .waitFall => .seq 0b01000#5
  | .sample => .seq 0b01100#5
  | .capWaitLow => .seq 0b10000#5
  | .capWaitHigh => .seq 0b10001#5
  | .capDelay => .seq 0b10010#5
  | .pushZero => .cell 0b00#2
  | .pushOne => .cell 0b01#2
  | .pushReset => .cell 0b10#2
  | .decode w => .frame w
  | .dispIdle => .disp 0b00#2
  | .dispPollEmpty => .disp 0b10#2
  | .dispPop => .disp 0b11#2
  | .rst => .rst 1#1

/-- One row of `spec/opcode_table.json`: a code of this format selects the operation when its bits under `mask` are
`value`. -/
structure Row where
  format : Format
  value : Nat
  mask : Nat
  deriving DecidableEq, Repr

/-- The row of an operation, copied from the table's "format", "match" and "mask". -/
def tableRow : Instr → Row
  | .huntReset => ⟨.seq, 0x00, 0x1c⟩
  | .waitRise => ⟨.seq, 0x04, 0x1c⟩
  | .waitFall => ⟨.seq, 0x08, 0x1c⟩
  | .sample => ⟨.seq, 0x0c, 0x1c⟩
  | .capWaitLow => ⟨.seq, 0x10, 0x1f⟩
  | .capWaitHigh => ⟨.seq, 0x11, 0x1f⟩
  | .capDelay => ⟨.seq, 0x12, 0x1f⟩
  | .pushZero => ⟨.cell, 0x0, 0x3⟩
  | .pushOne => ⟨.cell, 0x1, 0x3⟩
  | .pushReset => ⟨.cell, 0x2, 0x2⟩
  | .decode _ => ⟨.frame, 0x0, 0x0⟩
  | .dispIdle => ⟨.disp, 0x0, 0x2⟩
  | .dispPollEmpty => ⟨.disp, 0x2, 0x3⟩
  | .dispPop => ⟨.disp, 0x3, 0x3⟩
  | .rst => ⟨.rst, 0x1, 0x1⟩

/-- A code fits a row. -/
def Row.fits (r : Row) (c : Code) : Bool :=
  decide (c.format = r.format) && decide (c.bits &&& r.mask = r.value)

/-- DESIGN CHOICE (log entry 9): the format in which an 8-bit table word is read. A byte carries no format tag, and
the codes 0 to 3 are codes of several formats at once. The `SEQ` words that a reachable position can show keep their
reading; of the low codes that no reachable position shows, 1 is read as the `rst` pin and 2 and 3 as a polled
`{poll, q_avail}`. -/
def byteCode (w : Nat) : Option Code :=
  if w = 1 then some (.rst 1#1)
  else if w = 2 ∨ w = 3 then some (.disp (BitVec.ofNat 2 w))
  else if w < 32 then some (.seq (BitVec.ofNat 5 w))
  else none

/-- The code a table word of `nbits` bits stands for: by its width where that names the format, else `byteCode`. -/
def tableCode (nbits w : Nat) : Option Code :=
  if nbits = 16 then (if w < 65536 then some (.frame (BitVec.ofNat 16 w)) else none)
  else if nbits = 8 then byteCode w
  else if nbits = 5 then (if w < 32 then some (.seq (BitVec.ofNat 5 w)) else none)
  else if nbits = 2 then (if w < 4 then some (.cell (BitVec.ofNat 2 w)) else none)
  else if nbits = 1 then (if w < 2 then some (.rst (BitVec.ofNat 1 w)) else none)
  else none

/-- The operation the decoder reads from a table word (log entry 9). -/
def decodeTableWord (nbits w : Nat) : Option Instr :=
  match tableCode nbits w with
  | none => none
  | some c =>
    match decode c with
    | .ok i => some i
    | .reject _ => none

end Sys2Proof
end

