-- ==== Sys2Proof/Machine/State.lean ====
section
/-! DEFINITION. The state of the core (`10_state.md`), its reset value, and the reasons an operation can stop. -/

namespace Sys2Proof.Machine

/-- The Sampler's state `st` (R17). -/
inductive SeqState where
  | huntReset
  | waitRise
  | waitFall
  | sample
  | captureResponse
  deriving DecidableEq, Repr

/-- The phase `cph` inside `CAPTURE_RESPONSE` (R18). -/
inductive CapPhase where
  | capWaitLow
  | capWaitHigh
  | capDelay
  deriving DecidableEq, Repr

/-- The Decoded Frame, the result of `DECODE` (R85). -/
structure DecodedFrame where
  throttle : Throttle
  telemetryRequest : Bool
  checksumReceived : Nibble
  checksumExpected : Nibble
  checksumOk : Bool
  deriving DecidableEq, Repr

/-- A cell on the Sampler-to-Assembler interface with its source (R11, R67). -/
structure Emitted where
  cell : Cell
  src : Source
  deriving DecidableEq, Repr

/-- The events of R103. `ChecksumFail` is no constructor: it is the name of a `forward` whose checksum is wrong. -/
inductive Event where
  | cell (c : Cell) (src : Source)
  | enqueue (w : Word)
  | overflow (lost : Word)
  | windowExpired
  | dupDropped (w : Word)
  | forward (w : Word) (d : DecodedFrame)
  deriving DecidableEq, Repr

/-- Why the machine can fault. The hardware has no fault (R104); this one marks a use the spec forbids. -/
inductive Fault where
  /-- Raised by `exec .dispPop` on an empty queue: such a pop "cannot occur and has no defined meaning" (R36). Safe:
  no tick raises it, because `DISP_POP` is selected only when the queue holds a word (log entry 6). -/
  | popOfEmptyQueue
  deriving DecidableEq, Repr

/-- Why the machine can refuse. -/
inductive Refusal where
  /-- Raised by an arm of `exec` that has no meaning yet. Safe. No arm of this model raises it. -/
  | notModelled (mnemonic : String)
  /-- Raised by the three capture operations in a `uni` build, where "none of this exists" (R77, R56 c). Safe: no
  reachable `uni` state selects them (log entry 6). -/
  | captureAbsentInUni
  /-- Raised by a tick whose selector code the decoder rejects. Safe: State cannot express such a position (R56 c). -/
  | noOperation (r : Reject)
  deriving DecidableEq, Repr

/-- The state. Fields `st` to `qOvf` are the tuple of R12; `cfg` holds the build constants of R7, which no step
writes; `stim` to `events` are the model's own (log entries 2 and 4). The countdowns have the width `CW` of the build
they stand beside (R19, R20, R21; log entry 5). -/
structure State where
  /-- the build constants (R7) -/
  cfg : Config
  /-- the sequencer position (R17) -/
  st : SeqState
  /-- the capture phase (R18) -/
  cph : CapPhase
  /-- guard countdown of WAIT_RISE (R19) -/
  guard : BitVec cfg.cw
  /-- delay countdown of SAMPLE and CAP_DELAY (R20) -/
  dly : BitVec cfg.cw
  /-- the Capture Window State (R21) -/
  win : BitVec cfg.cw
  /-- the in-progress word (R15) -/
  sr : Word
  /-- data cells pushed since the last boundary (R16) -/
  cnt : BitVec 4
  /-- the word queue, oldest first (R22, R32) -/
  q : List Word
  /-- the Last-Seen Word (R23) -/
  lastSeen : Word
  /-- 0 until a word has been accepted (R23) -/
  lastValid : Bool
  /-- strobe: the tick before forwarded a frame (R24, R100) -/
  outValid : Bool
  outWord : Word
  outThrottle : Throttle
  outTlm : Bool
  outCrcRx : Nibble
  outCrcExp : Nibble
  outCrcOk : Bool
  /-- strobe: the tick before overflowed the queue (R24, R35) -/
  qOvf : Bool
  /-- MODEL: the pins of the coming ticks, next tick first (log entry 2) -/
  stim : List Pins
  /-- MODEL: ticks executed, the argument of the free pins (log entry 2) -/
  now : Nat
  /-- MODEL: the cell wires of the tick (R13's tap; log entry 4) -/
  tap : Option Emitted
  /-- MODEL: the Validator's result wires of the tick (R85; log entry 4) -/
  frame : Option DecodedFrame
  /-- MODEL: the events of the tick, in the order of R111 (log entry 4) -/
  events : List Event
  deriving DecidableEq, Repr

/-- What one operation answers. -/
abbrev Out := Host.Outcome State Fault Refusal

/-- The reset state of a build, the table of R30; no stimulus is listed (log entry 2). -/
def State.resetOf (c : Config) : State :=
  { cfg := c
    st := .huntReset
    cph := .capWaitLow
    guard := 0#_
    dly := 0#_
    win := 0#_
    sr := 0#16
    cnt := 0#4
    q := []
    lastSeen := 0#16
    lastValid := false
    outValid := false
    outWord := 0#16
    outThrottle := 0#11
    outTlm := false
    outCrcRx := 0#4
    outCrcExp := 0#4
    outCrcOk := false
    qOvf := false
    stim := []
    now := 0
    tap := none
    frame := none
    events := [] }

/-- The reset state. The build is unknown (log entry 1). -/
def State.reset : State := State.resetOf Config.build

end Sys2Proof.Machine
end

