-- ==== Sys2Proof/Machine/Operands.lean ====
section
/-! DEFINITION. What the operations read: the pins, the selector of the sequencer, the fields of a word, the code of a
cell; and the output bundle (`30_encoding.md` rules R48 to R54). -/

namespace Sys2Proof.Machine

/-- The pins `k` ticks ahead: the listed stimulus, and beyond its end the free pins (log entry 2). -/
def State.pinsAt (s : State) (k : Nat) : Pins :=
  match s.stim[k]? with
  | some p => p
  | none => Config.freePins (s.now + k)

/-- The pins of this tick. -/
def State.pins (s : State) : Pins := s.pinsAt 0

/-- The Digital Line State of this tick, `true` is high; every rule of one tick reads this one value (R46). -/
def State.line (s : State) : Bool := s.pins.line

/-- The code of `st` (R50). -/
def seqStateCode : SeqState → BitVec 3
  | .huntReset => 0#3
  | .waitRise => 1#3
  | .waitFall => 2#3
  | .sample => 3#3
  | .captureResponse => 4#3

/-- The code of `cph` (R18, R50). -/
def capPhaseCode : CapPhase → BitVec 2
  | .capWaitLow => 0#2
  | .capWaitHigh => 1#2
  | .capDelay => 2#2

/-- The sequencer position `{st[2:0], cph[1:0]}` (R50). -/
def State.seqWord (s : State) : BitVec 5 := seqStateCode s.st ++ capPhaseCode s.cph

/-- The `CELL` code of a cell (R49). -/
def cellCode : Cell → BitVec 2
  | .zero => 0b00#2
  | .one => 0b01#2
  | .reset => 0b10#2

/-- The data cell of a line level: high is ONE, low is ZERO, uninverted (R54, R65, R74). -/
def dataCell (level : Bool) : Cell := if level then .one else .zero

/-- A bit value as a 16-bit word (R79). -/
def bitWord (b : Bool) : Word := if b then 1#16 else 0#16

/-- The word after a data push: shifted left by one, the new bit at bit 0, the old bit 15 lost (R79). -/
def shiftIn (sr : Word) (b : Bool) : Word := (sr <<< 1) ||| bitWord b

/-- `checksum_received = w[3:0]` (R86). -/
def checksumReceived (w : Word) : Nibble := w.extractLsb' 0 4

/-- `throttle_and_tm = w[15:4]` (R87). -/
def throttleAndTm (w : Word) : Field := w.extractLsb' 4 12

/-- The fold of a 12-bit field: the complement of the low nibble of `t ^ (t >> 4) ^ (t >> 8)` (R88). -/
def checksumOfField (t : Field) : Nibble := (~~~(t ^^^ (t >>> 4) ^^^ (t >>> 8))).extractLsb' 0 4

/-- `checksum_expected` (R88). -/
def checksumExpected (w : Word) : Nibble := checksumOfField (throttleAndTm w)

/-- `telemetry_request = throttle_and_tm & 1` (R90). -/
def telemetryRequest (w : Word) : Bool := (throttleAndTm w).getLsbD 0

/-- `throttle = throttle_and_tm >> 1` (R91). -/
def throttleOf (w : Word) : Throttle := (throttleAndTm w).extractLsb' 1 11

/-- `ENCODE(throttle, telemetry_request)`, the inverse of `DECODE`; not an operation of the core (R94). -/
def encodeFrame (throttle : Throttle) (tlm : Bool) : Word :=
  let t : Field := throttle ++ BitVec.ofBool tlm
  t ++ checksumOfField t

/-- The tap port `cell_valid` for the tick last executed (R13, R67). -/
def State.cellValid (s : State) : Bool := s.tap.isSome

/-- The tap port `cell` (R13, R67). DESIGN CHOICE (log entry 12): with `cell_valid = 0`, where the spec gives it no
value, it shows nothing. -/
def State.cellTap (s : State) : Option (BitVec 2) := s.tap.map (fun e => cellCode e.cell)

/-- The tap port `cell_resp`: 1 iff the cell came from the response capture (R13, R67). DESIGN CHOICE (log entry 12):
with `cell_valid = 0`, where the spec gives it no value, it is 0. -/
def State.cellResp (s : State) : Bool :=
  match s.tap with
  | some e => decide (e.src = .resp)
  | none => false

/-- The output bundle as one 37-bit vector, `out_word` in the upper bits (R53). -/
def State.outBundle (s : State) : BitVec 37 :=
  s.outWord ++ s.outThrottle ++ BitVec.ofBool s.outTlm ++ s.outCrcRx ++ s.outCrcExp ++ BitVec.ofBool s.outCrcOk

end Sys2Proof.Machine
end

