-- ==== Sys2Proof/Machine/Flags.lean ====
section
/-! DEFINITION. The one-bit indications of the core (`10_state.md` rule R25) and the selector they form. -/

namespace Sys2Proof.Machine

/-- `QAvail()`, the port `q_avail`: 1 iff the queue holds at least one word (R37). -/
def State.qAvail (s : State) : Bool := !s.q.isEmpty

/-- `checksum_ok`: the received checksum equals the expected one (R89). -/
def checksumOk (w : Word) : Bool := decide (checksumReceived w = checksumExpected w)

/-- A popped word repeats the Last-Seen Word: the comparison is on the raw 16 bits, and needs an earlier accepted
word (R99). -/
def State.isDuplicate (s : State) (w : Word) : Bool := s.lastValid && decide (w = s.lastSeen)

/-- The push count in its 5-bit intermediate, `cnt + 1`, 1 to 16 (R16, R80). -/
def pushCount (cnt : BitVec 4) : BitVec 5 := cnt.setWidth 5 + 1#5

/-- The sample of this tick completes a word after which a `bidir` build captures the response: `cnt` is 15 at the
start of the tick (R66). -/
def State.entersCapture (s : State) : Bool := decide (s.cnt = 15#4) && decide (s.cfg.variant = .bidir)

/-- The dispatch selector `{poll, q_avail}` (R51). -/
def State.dispWord (s : State) : BitVec 2 := BitVec.ofBool s.pins.poll ++ BitVec.ofBool s.qAvail

/-- The reset selector (R52). -/
def State.rstWord (s : State) : BitVec 1 := BitVec.ofBool s.pins.rst

/-- A `ChecksumFail` event: a forwarded word whose checksum does not match (R103). -/
def Event.isChecksumFail : Event → Bool
  | .forward _ d => !d.checksumOk
  | .cell _ _ => false
  | .enqueue _ => false
  | .overflow _ => false
  | .windowExpired => false
  | .dupDropped _ => false

end Sys2Proof.Machine
end

