-- ==== Sys2Proof/Machine/Ops.lean ====
section
/-! DEFINITION. The operations the meanings share: events and cells, the queue, the push of a cell, the capture window,
the validator, the forward step, reset, and what a tick does around its operations. -/

namespace Sys2Proof.Machine

/-- Run `f` on the next state; a stop stays a stop. -/
def andThen (o : Out) (f : State → Out) : Out :=
  match o with
  | .next s => f s
  | .fault r => .fault r
  | .refused r => .refused r

/-- `event E`: record an event of this tick (R11, R103). -/
def State.note (s : State) (e : Event) : State := { s with events := s.events ++ [e] }

/-- `emit Cell(c, src)`: put a cell on the wires to the Assembler, which takes it in the same tick (R11, R67, R78). -/
def State.emit (s : State) (c : Cell) (src : Source) : State :=
  { s with tap := some ⟨c, src⟩, events := s.events ++ [.cell c src] }

/-- `QPush(w)` on the queue left by this tick's pop: appended, and on a full queue the oldest word is discarded
(drop-oldest, R35). The case of an empty queue that is full belongs to `QDEPTH = 0`, which R7 excludes (log entry 11). -/
def State.qPush (s : State) (w : Word) : State :=
  if s.q.length < s.cfg.qdepth then
    { s with q := s.q ++ [w], qOvf := false }
  else
    match s.q with
    | [] => { s with q := [w], qOvf := false }
    | h :: rest => { s with q := rest ++ [w], qOvf := true, events := s.events ++ [.overflow h] }

/-- `QPop()`: the head and the state without it; nothing on an empty queue (R36). -/
def State.qPop (s : State) : Option (Word × State) :=
  match s.q with
  | [] => none
  | w :: rest => some (w, { s with q := rest })

/-- `complete(w)`: enqueue the completed word and reset the bit count (R83). -/
def State.complete (s : State) (w : Word) : State :=
  ({ s with cnt := 0#4, events := s.events ++ [.enqueue w] } : State).qPush w

/-- `push_bit` of a data cell (R80, R81): shift, count, and at sixteen complete the word. -/
def State.pushBit (s : State) (b : Bool) : State :=
  let w := shiftIn s.sr b
  let n := pushCount s.cnt
  if n = 16#5 then ({ s with sr := w } : State).complete w
  else { s with sr := w, cnt := n.setWidth 4 }

/-- `push_bit` of a RESET cell: the in-progress word is discarded (R82). This is the one mechanism by which the core
abandons work; there is no exception entry and no return (R112, R113). -/
def State.discardWord (s : State) : State := { s with sr := 0#16, cnt := 0#4 }

/-- `next_after_sample` with the creation of the capture window (R66, R71). -/
def State.afterSample (s : State) : State :=
  { s with
    st := if s.entersCapture then .captureResponse else .huntReset
    cph := if s.entersCapture then .capWaitLow else s.cph
    win := if s.entersCapture then s.cfg.window else s.win }

/-- `expire`: the capture window ran out (R75). -/
def State.expire (s : State) : State :=
  ({ s with st := .huntReset, cph := .capWaitLow } : State).emit .reset .host |>.note .windowExpired

/-- One waiting tick of the window, shared by the two waiting phases (R72, R73): expire at 0, else count down. -/
def State.windowTick (s : State) : State :=
  if s.win = 0#_ then s.expire else { s with win := s.win - 1#_ }

/-- `DECODE(w)`, a pure function of the word (R85 to R91). -/
def decodeFrame (w : Word) : DecodedFrame :=
  { throttle := throttleOf w
    telemetryRequest := telemetryRequest w
    checksumReceived := checksumReceived w
    checksumExpected := checksumExpected w
    checksumOk := checksumOk w }

/-- Evaluate the Validator on a word: its result is on the Validator's output wires in this tick, and no register
changes (R85; log entry 4). -/
def State.validate (s : State) (w : Word) : State := { s with frame := some (decodeFrame w) }

/-- The forward branch of `DISP_POP`: accept the word, decode it, and write the output registers (R99). -/
def State.forward (s : State) (w : Word) : State :=
  let d := decodeFrame w
  { s.validate w with
    lastSeen := w
    lastValid := true
    outWord := w
    outThrottle := d.throttle
    outTlm := d.telemetryRequest
    outCrcRx := d.checksumReceived
    outCrcExp := d.checksumExpected
    outCrcOk := d.checksumOk
    outValid := true
    events := s.events ++ [.forward w d] }

/-- The duplicate branch of `DISP_POP`: the word is dropped and nothing is output (R99). -/
def State.dropDuplicate (s : State) (w : Word) : State :=
  { s with outValid := false, events := s.events ++ [.dupDropped w] }

/-- Every register at its reset value (R119, R30). The build constants and the pins to come are no registers; a reset
tick raises no event and emits no cell. -/
def State.resetRegs (s : State) : State :=
  { s with
    st := .huntReset
    cph := .capWaitLow
    guard := 0#_
    dly := 0#_
    win := 0#_
    sr := 0#16
    cnt := 0#4
    q := []
    lastSeen := 0#16
    lastValid := false
    outValid := false
    outWord := 0#16
    outThrottle := 0#11
    outTlm := false
    outCrcRx := 0#4
    outCrcExp := 0#4
    outCrcOk := false
    qOvf := false
    tap := none
    frame := none
    events := [] }

/-- Before the operations of a tick: the wires and the event list are those of no operation yet, and `q_ovf` is 0
unless a push of this tick overflows ("On a tick with no `QPush`, `q_ovf <- 0`", R35, R24; log entry 4). -/
def State.beginTick (s : State) : State :=
  { s with qOvf := false, tap := none, frame := none, events := [] }

/-- After the operations of a tick: the next tick's pins come up. -/
def State.endTick (s : State) : State := { s with stim := s.stim.drop 1, now := s.now + 1 }

end Sys2Proof.Machine
end

