-- ==== Sys2Proof/Machine/Assembler.lean ====
section
/-! DEFINITION. The Assembler's three operations (`42_assembler.md`). -/

namespace Sys2Proof.Machine

/-- `PUSH_ZERO` (R80). -/
def execPushZero (s : State) : Out := .next (s.pushBit false)

/-- `PUSH_ONE` (R81). -/
def execPushOne (s : State) : Out := .next (s.pushBit true)

/-- `PUSH_RESET` (R82). -/
def execPushReset (s : State) : Out := .next s.discardWord

end Sys2Proof.Machine
end

