-- ==== Sys2Proof/Machine/Capture.lean ====
section
/-! DEFINITION. The three operations of the response window (`41_response_window.md`). A `uni` build has none of them
(R77) and refuses them by name (log entry 6). -/

namespace Sys2Proof.Machine

/-- `CAP_WAIT_LOW` (R72): the line is tested first; `win` keeps its value on an advance. -/
def execCapWaitLow (s : State) : Out :=
  match s.cfg.variant with
  | .uni => .refused .captureAbsentInUni
  | .bidir =>
    if s.line then .next s.windowTick
    else .next { s with cph := .capWaitHigh }

/-- `CAP_WAIT_HIGH` (R73): low then high means the device responded, and the window no longer runs. -/
def execCapWaitHigh (s : State) : Out :=
  match s.cfg.variant with
  | .uni => .refused .captureAbsentInUni
  | .bidir =>
    if s.line then .next { s with dly := s.cfg.delayResp, cph := .capDelay }
    else .next s.windowTick

/-- `CAP_DELAY` (R74): run the longer delay down, then classify the response bit and restart the cycle. -/
def execCapDelay (s : State) : Out :=
  match s.cfg.variant with
  | .uni => .refused .captureAbsentInUni
  | .bidir =>
    if s.dly = 0#_ then
      .next (({ s with win := 0#_, cph := .capWaitLow, st := .huntReset } : State).emit (dataCell s.line) .resp)
    else .next { s with dly := s.dly - 1#_ }

end Sys2Proof.Machine
end

