-- ==== Sys2Proof/Machine/DispatchLoop.lean ====
section
/-! DEFINITION. The three operations of the Dispatch agent (`44_dispatch.md`). -/

namespace Sys2Proof.Machine

/-- `DISP_IDLE` (R97): the agent is not scheduled; only the strobe is cleared. -/
def execDispIdle (s : State) : Out := .next { s with outValid := false }

/-- `DISP_POLL_EMPTY` (R98): the poll finds no word; only the strobe is cleared. -/
def execDispPollEmpty (s : State) : Out := .next { s with outValid := false }

/-- `DISP_POP` (R99): pop one word; drop it if it repeats the Last-Seen Word, else accept and forward it. A pop of an
empty queue has no defined meaning (R36). -/
def execDispPop (s : State) : Out :=
  match s.qPop with
  | none => .fault .popOfEmptyQueue
  | some (w, t) => if t.isDuplicate w then .next (t.dropDuplicate w) else .next (t.forward w)

end Sys2Proof.Machine
end

