-- ==== Sys2Proof/Machine/Reset.lean ====
section
/-! DEFINITION. The operation on the whole core (`70_reset_and_hazards.md`). -/

namespace Sys2Proof.Machine

/-- `RST` (R119): synchronous reset of every register. -/
def execRst (s : State) : Out := .next s.resetRegs

end Sys2Proof.Machine
end

