-- ==== Sys2Proof/Machine/Sampler.lean ====
section
/-! DEFINITION. The Sampler's four operations of both variants (`40_sampler.md`). -/

namespace Sys2Proof.Machine

/-- `HUNT_RESET` (R62): wait for the line to be low, on its level; then load the guard countdown. -/
def execHuntReset (s : State) : Out :=
  if s.line then .next s
  else .next { s with guard := s.cfg.guard, st := .waitRise }

/-- `WAIT_RISE` (R63): the line is tested first, then the countdown for zero, and only then is it decremented. -/
def execWaitRise (s : State) : Out :=
  if s.line then .next { s with st := .waitFall }
  else if s.guard = 0#_ then .next (({ s with st := .huntReset } : State).emit .reset .host)
  else .next { s with guard := s.guard - 1#_ }

/-- `WAIT_FALL` (R64): wait for the line to be low, without a timeout; then load the delay. -/
def execWaitFall (s : State) : Out :=
  if s.line then .next s
  else .next { s with dly := s.cfg.delay, st := .sample }

/-- `SAMPLE` (R65): run the delay down, then classify the line level of this one tick and go on as R66 says. -/
def execSample (s : State) : Out :=
  if s.dly = 0#_ then .next (s.afterSample.emit (dataCell s.line) .host)
  else .next { s with dly := s.dly - 1#_ }

end Sys2Proof.Machine
end

