-- ==== Sys2Proof/Machine/Validator.lean ====
section
/-! DEFINITION. The Validator's operation (`43_validator.md`). -/

namespace Sys2Proof.Machine

/-- `DECODE` of a word (R85): no register is read or written; the Decoded Frame is on the Validator's wires. -/
def execDecode (w : Word) (s : State) : Out := .next (s.validate w)

end Sys2Proof.Machine
end

