-- ==== Sys2Proof/Machine/Dispatch.lean ====
section
/-! DEFINITION. One arm per operation: the effect of one operation on the state of its tick. -/

namespace Sys2Proof.Machine

def exec (i : Instr) (s : State) : Host.Outcome State Fault Refusal :=
  match i with
  | .huntReset => Sys2Proof.Machine.execHuntReset s
  | .waitRise => Sys2Proof.Machine.execWaitRise s
  | .waitFall => Sys2Proof.Machine.execWaitFall s
  | .sample => Sys2Proof.Machine.execSample s
  | .capWaitLow => Sys2Proof.Machine.execCapWaitLow s
  | .capWaitHigh => Sys2Proof.Machine.execCapWaitHigh s
  | .capDelay => Sys2Proof.Machine.execCapDelay s
  | .pushZero => Sys2Proof.Machine.execPushZero s
  | .pushOne => Sys2Proof.Machine.execPushOne s
  | .pushReset => Sys2Proof.Machine.execPushReset s
  | .decode w => Sys2Proof.Machine.execDecode w s
  | .dispIdle => Sys2Proof.Machine.execDispIdle s
  | .dispPollEmpty => Sys2Proof.Machine.execDispPollEmpty s
  | .dispPop => Sys2Proof.Machine.execDispPop s
  | .rst => Sys2Proof.Machine.execRst s

end Sys2Proof.Machine
end

