-- ==== Sys2Proof/Machine/Tick.lean ====
section
/-! DEFINITION. One sampling tick: which operations it selects and in which order they act (`60_exceptions.md` rule
R111); and how a given operation is brought to run in the next tick. -/

namespace Sys2Proof.Machine

/-- Decode a selector code and run what it selects. -/
def runCode (c : Code) (s : State) : Out :=
  match decode c with
  | .ok i => exec i s
  | .reject r => .refused (.noOperation r)

/-- The Assembler's part of a tick: the operation of the cell on the wires, if there is one (R78, R111 step 4). -/
def assemble (s : State) : Out :=
  match s.tap with
  | none => .next s
  | some e => runCode (.cell (cellCode e.cell)) s

/-- One tick (R111): `rst` overrides everything; otherwise the Dispatch operation, then the Sampler operation of the
position at the start of the tick, then the operation of the cell it emitted. The agents share nothing but the queue
(R12), so running them in this order is their acting at once, with the pop before the push (R38; log entry 3). -/
def tick (s : State) : Out :=
  if s.pins.rst then
    andThen (runCode (.rst s.rstWord) s.beginTick) fun t => .next t.endTick
  else
    andThen (runCode (.disp s.dispWord) s.beginTick) fun a =>
      andThen (runCode (.seq s.seqWord) a) fun b =>
        andThen (assemble b) fun t => .next t.endTick

/-- `k` ticks. -/
def runTicks : Nat → State → Out
  | 0, s => .next s
  | k + 1, s => andThen (tick s) (runTicks k)

/-- The pins of the next tick replaced. -/
def State.withPins (s : State) (p : Pins) : State := { s with stim := p :: s.stim.drop 1 }

/-- A tick without reset and without a poll at the given line level. -/
def quietPins (line : Bool) : Pins := { rst := false, line := line, poll := false }

/-- A tick without reset, with a poll, at a high line. -/
def pollPins : Pins := { rst := false, line := true, poll := true }

/-- Bring an operation to run in the next tick: the registers and pins that select it (R50 to R52) take the values
that do, for a cell the position that emits it (R67), for `DECODE` a queue that forwards its word (R55). The line is
high unless the operation needs it low, so that the rest of the tick does as little as it can (log entry 9). -/
def State.place (s : State) (i : Instr) : State :=
  match i with
  | .huntReset => { s.withPins (quietPins true) with st := .huntReset, cph := .capWaitLow }
  | .waitRise => { s.withPins (quietPins true) with st := .waitRise, cph := .capWaitLow }
  | .waitFall => { s.withPins (quietPins true) with st := .waitFall, cph := .capWaitLow }
  | .sample => { s.withPins (quietPins true) with st := .sample, cph := .capWaitLow }
  | .capWaitLow =>
    { s.withPins (quietPins true) with
      st := .captureResponse, cph := .capWaitLow, cfg := { s.cfg with variant := .bidir } }
  | .capWaitHigh =>
    { s.withPins (quietPins true) with
      st := .captureResponse, cph := .capWaitHigh, cfg := { s.cfg with variant := .bidir } }
  | .capDelay =>
    { s.withPins (quietPins true) with
      st := .captureResponse, cph := .capDelay, cfg := { s.cfg with variant := .bidir } }
  | .pushZero => { s.withPins (quietPins false) with st := .sample, cph := .capWaitLow, dly := 0#_ }
  | .pushOne => { s.withPins (quietPins true) with st := .sample, cph := .capWaitLow, dly := 0#_ }
  | .pushReset => { s.withPins (quietPins false) with st := .waitRise, cph := .capWaitLow, guard := 0#_ }
  | .decode w => { s.withPins pollPins with q := [w], lastValid := false }
  | .dispIdle => s.withPins (quietPins true)
  | .dispPollEmpty => { s.withPins pollPins with q := [] }
  | .dispPop =>
    { s.withPins pollPins with
      q := match s.q with
        | [] => [0#16]
        | w :: rest => w :: rest }
  | .rst => s.withPins { rst := true, line := true, poll := false }

/-- The state in which the next tick runs the operation a table word stands for. -/
def State.placeWord (s : State) (nbits w : Nat) : State :=
  match decodeTableWord nbits w with
  | some i => s.place i
  | none => s

end Sys2Proof.Machine
end

