-- ==== Sys2Proof/Machine/Step.lean ====
section
/-! DEFINITION. The step of the machine: one sampling tick (`00_scope.md` rule R9). -/

namespace Sys2Proof.Machine

/-- One step is one tick; the agents' order inside it is in Tick.lean. -/
def step (s : State) : Host.Outcome State Fault Refusal := tick s

/-- The state whose next step runs the operation of a table word (log entry 9). -/
def State.withFetchWord (s : State) (nbits w : Nat) : State := s.placeWord nbits w

end Sys2Proof.Machine
end

