-- ==== Sys2Proof/Machine/Stimulus.lean ====
section
/-! DEFINITION. The stimulus notation of the spec, assembled to pin levels, and its trace notation
(`30_encoding.md` rules R58 to R60). -/

namespace Sys2Proof.Machine

/-- The primary statements (R58). -/
inductive Stimulus where
  | rst (n : Nat)
  | low (n : Nat)
  | high (n : Nat)
  | poll (on : Bool)
  deriving DecidableEq, Repr

/-- The pins of a list of statements, one entry a tick, under a poll mode (R58). -/
def pinsOf : Bool → List Stimulus → List Pins
  | _, [] => []
  | mode, .rst n :: rest => List.replicate n ⟨true, true, mode⟩ ++ pinsOf mode rest
  | mode, .low n :: rest => List.replicate n ⟨false, false, mode⟩ ++ pinsOf mode rest
  | mode, .high n :: rest => List.replicate n ⟨false, true, mode⟩ ++ pinsOf mode rest
  | _, .poll on :: rest => pinsOf on rest

/-- A whole program: the poll mode is initially off (R58). -/
def pinsOfProgram (l : List Stimulus) : List Pins := pinsOf false l

/-- `BITZ` (R59). -/
def bitz (c : Config) : List Stimulus := [.low 1, .high 1, .low (c.delay.toNat + 2)]

/-- `BITO` (R59). -/
def bito (c : Config) : List Stimulus := [.low 1, .high 1, .low (c.delay.toNat + 1), .high 1]

/-- `IDLE` (R59). -/
def idle (c : Config) : List Stimulus := [.low (c.guard.toNat + 2)]

/-- `BITS(b...)` (R59). -/
def bitsStim (c : Config) (bs : List Bool) : List Stimulus :=
  bs.flatMap fun b => if b then bito c else bitz c

/-- The bits of a word, most significant first (R41, R59). -/
def bitsOfWord (w : Word) : List Bool := (List.range 16).map fun i => w.getLsbD (15 - i)

/-- `FRAME(w)` (R59). -/
def frameStim (c : Config) (w : Word) : List Stimulus := bitsStim c (bitsOfWord w)

/-- `RESPO` (R59). -/
def respo (c : Config) : List Stimulus := [.low 1, .high (c.delayResp.toNat + 2)]

/-- `RESPZ` (R59). -/
def respz (c : Config) : List Stimulus := [.low 1, .high (c.delayResp.toNat + 1), .low 1]

/-- `NORESP` (R59). -/
def noresp (c : Config) : List Stimulus := [.high (c.window.toNat + 1)]

/-- The letter of a cell in a trace: lower case for a response cell (R60). -/
def cellLetter (e : Emitted) : Char :=
  match e.cell, e.src with
  | .zero, .host => 'Z'
  | .one, .host => 'O'
  | .reset, _ => 'R'
  | .zero, .resp => 'z'
  | .one, .resp => 'o'

end Sys2Proof.Machine
end

