-- ==== Sys2Proof/Safety.lean ====
section
/-! DEFINITION. The terms the claims use: the invariants of `10_state.md` rule R29, what each agent owns (R12), runs and
their events, waveforms on the pins, and the cutting of a cell stream into words (`42_assembler.md` rule R84). -/

namespace Sys2Proof.Machine

/-- The invariants of R29, clauses (b), (c), (d), (f), (g), (h), with the constraints of R7 on the build. Clauses (a)
and (e) hold by the types of `st`, `cph` and `cnt`. Countdowns are compared as numbers. -/
structure State.Inv (s : State) : Prop where
  /-- R7 -/
  legal : s.cfg.wf = true
  /-- R29 b -/
  phase : s.st ≠ .captureResponse → s.cph = .capWaitLow
  /-- R29 c -/
  uni : s.cfg.variant = .uni → s.st ≠ .captureResponse ∧ s.win.toNat = 0 ∧ s.cph = .capWaitLow
  /-- R29 d -/
  capture : s.st = .captureResponse → s.cnt = 0#4
  /-- R29 f -/
  depth : s.q.length ≤ s.cfg.qdepth
  /-- R29 g -/
  delay : ¬(s.st = .sample ∨ (s.st = .captureResponse ∧ s.cph = .capDelay)) → s.dly.toNat = 0
  /-- R29 h -/
  guardLe : s.guard.toNat ≤ s.cfg.guard.toNat
  /-- R29 h; in a `uni` build clause (c) says more -/
  winLe : s.cfg.variant = .bidir → s.win.toNat ≤ s.cfg.window.toNat
  /-- R29 h -/
  dlyLe : s.dly.toNat ≤ s.cfg.maxDelay

/-- The same state in a build with other values of `WINDOW` and `DELAY_RESP` (each taken in `CW` bits). -/
def State.withWindow (s : State) (w d : Nat) : State :=
  { s with cfg := { s.cfg with window := BitVec.ofNat _ w, delayResp := BitVec.ofNat _ d } }

/-- The output registers show the Decoded Frame of the Last-Seen Word once a word has been accepted, and before that
nothing has been forwarded (R23, R24, R40, R99). -/
structure State.OutputsShowLastAccepted (s : State) : Prop where
  word : s.lastValid = true → s.outWord = s.lastSeen
  fields : s.lastValid = true →
    s.outThrottle = throttleOf s.lastSeen ∧ s.outTlm = telemetryRequest s.lastSeen ∧
      s.outCrcRx = checksumReceived s.lastSeen ∧ s.outCrcExp = checksumExpected s.lastSeen ∧
      s.outCrcOk = checksumOk s.lastSeen
  strobe : s.outValid = true → s.lastValid = true

/-- The registers of agent `SAMPLER`, but for `q_ovf` and the queue's tail, agree in two states of one build (R12). A
countdown's width is its state's `CW`, so two countdowns are compared as numbers. -/
structure SamplerAgrees (s t : State) : Prop where
  cfg : s.cfg = t.cfg
  st : s.st = t.st
  cph : s.cph = t.cph
  guard : s.guard.toNat = t.guard.toNat
  dly : s.dly.toNat = t.dly.toNat
  win : s.win.toNat = t.win.toNat
  sr : s.sr = t.sr
  cnt : s.cnt = t.cnt

/-- The registers of agent `DISPATCH` agree in two states (R12). -/
structure DispatchAgrees (s t : State) : Prop where
  lastSeen : s.lastSeen = t.lastSeen
  lastValid : s.lastValid = t.lastValid
  outValid : s.outValid = t.outValid
  outWord : s.outWord = t.outWord
  outThrottle : s.outThrottle = t.outThrottle
  outTlm : s.outTlm = t.outTlm
  outCrcRx : s.outCrcRx = t.outCrcRx
  outCrcExp : s.outCrcExp = t.outCrcExp
  outCrcOk : s.outCrcOk = t.outCrcOk

/-- What no operation changes: the build and the pins (R7, R114). -/
structure EnvironmentAgrees (s t : State) : Prop where
  cfg : s.cfg = t.cfg
  stim : s.stim = t.stim
  now : s.now = t.now

/-- The operations of format `SEQ` (R55). -/
def isSamplerOp (i : Instr) : Prop := (encode i).format = .seq

/-- The operations of format `CELL` (R55). -/
def isAssemblerOp (i : Instr) : Prop := (encode i).format = .cell

/-- The operations of format `DISP` (R55). -/
def isDispatchOp (i : Instr) : Prop := (encode i).format = .disp

/-- The push of a data bit (R78). -/
def dataPush (b : Bool) : Instr := if b then .pushOne else .pushZero

/-- The Assembler operation of a cell (R78). -/
def pushOf : Cell → Instr
  | .zero => .pushZero
  | .one => .pushOne
  | .reset => .pushReset

/-- Operations one after another. -/
def execAll : List Instr → State → Out
  | [], s => .next s
  | i :: is, s => andThen (exec i s) (execAll is)

/-- The words a list of events enqueued, in order. -/
def enqueued : List Event → List Word
  | [] => []
  | .enqueue w :: es => w :: enqueued es
  | _ :: es => enqueued es

/-- The words that left the queue, popped or lost by overflow, in order (R103). -/
def departed : List Event → List Word
  | [] => []
  | .forward w _ :: es => w :: departed es
  | .dupDropped w :: es => w :: departed es
  | .overflow w :: es => w :: departed es
  | _ :: es => departed es

/-- The place of an event in the trace order of R111. -/
def Event.rank : Event → Nat
  | .forward _ _ => 0
  | .dupDropped _ => 0
  | .cell _ _ => 1
  | .windowExpired => 2
  | .enqueue _ => 3
  | .overflow _ => 4

/-- The events of `k` steps and the state after them; nothing if a step stops. -/
def runLog : Nat → State → Option (List Event × State)
  | 0, s => some ([], s)
  | k + 1, s =>
    match step s with
    | .next t => (runLog k t).map fun p => (t.events ++ p.1, p.2)
    | .fault _ => none
    | .refused _ => none

/-- The next `n` ticks are no reset ticks. -/
def State.NoReset (s : State) (n : Nat) : Prop := ∀ k, k < n → (s.pinsAt k).rst = false

/-- The line is at `level` for `n` ticks, beginning `a` ticks ahead. -/
def State.LineIs (s : State) (a n : Nat) (level : Bool) : Prop :=
  ∀ k, a ≤ k → k < a + n → (s.pinsAt k).line = level

/-- A word from its bits, the first one the most significant: the sum of `b_i * 2^i` (R54, R79). -/
def wordOfBits (bs : List Bool) : Word := BitVec.ofNat 16 (bs.foldl (fun n b => 2 * n + b.toNat) 0)

/-- A cell stream cut at every RESET cell, the RESET cells dropped (R84 c). -/
def cutAtReset : List Cell → List (List Bool)
  | [] => [[]]
  | .reset :: cs => [] :: cutAtReset cs
  | .zero :: cs =>
    match cutAtReset cs with
    | [] => [[false]]
    | p :: ps => (false :: p) :: ps
  | .one :: cs =>
    match cutAtReset cs with
    | [] => [[true]]
    | p :: ps => (true :: p) :: ps

/-- A piece cut into consecutive groups of sixteen from its start, an incomplete last group dropped (R84 c). -/
def groupsOf16 (bs : List Bool) : List (List Bool) :=
  (List.range (bs.length / 16)).map fun i => (bs.drop (16 * i)).take 16

/-- The words of a cell stream (R84 c). -/
def wordsOfCells (cs : List Cell) : List Word := ((cutAtReset cs).flatMap groupsOf16).map wordOfBits

end Sys2Proof.Machine
end

