-- ==== Sys2Proof/WellFormed.lean ====
section
/-! DEFINITION. Which operations a build has. -/

namespace Sys2Proof

/-- The operations that exist in a `bidir` build only (R55, R77; the table's "variant" column). -/
def Instr.bidirOnly : Instr → Bool
  | .capWaitLow => true
  | .capWaitHigh => true
  | .capDelay => true
  | .huntReset => false
  | .waitRise => false
  | .waitFall => false
  | .sample => false
  | .pushZero => false
  | .pushOne => false
  | .pushReset => false
  | .decode _ => false
  | .dispIdle => false
  | .dispPollEmpty => false
  | .dispPop => false
  | .rst => false

/-- An operation is well formed for a variant if a build of that variant has it (R55, R77). Every 16-bit operand of
`decode` is legal (R56 a), so there is nothing else to check. -/
def WellFormed (v : Variant) (i : Instr) : Bool :=
  match v with
  | .bidir => true
  | .uni => !i.bidirOnly

end Sys2Proof
end

