-- ==== Sys2Proof/Certificates/Slice0/Obligations.lean ====
section
/-! DEFINITION. The statements about the DShot reader core. "Spec's decision D<n>" in a docstring names the row of
`92_eei_decisions.md` that a clause rests on; "log entry <n>" names a choice of this model. -/

open Sys2Proof Sys2Proof.Machine

/-! ### Encoding -/

/-- R50 to R52, R48, R49, R55, R56: every operation is decoded from its own code; a code is decoded to an operation
exactly when it fits that operation's row of the opcode table (and carries its word, for `DECODE`); the rejected codes
are the unreachable positions and `rst = 0`. Rests on the spec's decisions D2, D4, D11, D14, D19. -/
def Obligations.DecoderAgreesWithOpcodeTable : Prop :=
  (∀ i : Instr, decode (encode i) = .ok i) ∧
  (∀ (c : Code) (i : Instr),
    decode c = .ok i ↔ ((tableRow i).fits c = true ∧ ∀ w, i = .decode w → c = .frame w)) ∧
  (∀ c : Code, decode c = .reject .unreachablePosition ↔ ∃ w : BitVec 5, c = .seq w ∧ 19 ≤ w.toNat) ∧
  (∀ c : Code, decode c = .reject .nothingSelected ↔ c = .rst 0#1)

/-- R49, R50, R51, R52: a few codes written out from the tables, bit by bit. -/
def Obligations.SampleCodesDecode : Prop :=
  decode (.seq 0b00111#5) = .ok .waitRise ∧ decode (.seq 0b10010#5) = .ok .capDelay ∧
  decode (.cell 0b11#2) = .ok .pushReset ∧ decode (.disp 0b10#2) = .ok .dispPollEmpty ∧
  decode (.frame 0b0000000101100101#16) = .ok (.decode 0x0165#16) ∧ decode (.rst 0b1#1) = .ok .rst

/-- R50, R51: which operations a tick without reset selects, from the pins, the queue and the position. Rests on the
spec's decisions D4, D11, D19. -/
def Obligations.TickSelectsByPositionAndPoll : Prop :=
  ∀ s : State,
    (s.pins.poll = false → decode (.disp s.dispWord) = .ok .dispIdle) ∧
    (s.pins.poll = true → s.q = [] → decode (.disp s.dispWord) = .ok .dispPollEmpty) ∧
    (s.pins.poll = true → s.q ≠ [] → decode (.disp s.dispWord) = .ok .dispPop) ∧
    (s.st = .huntReset → decode (.seq s.seqWord) = .ok .huntReset) ∧
    (s.st = .waitRise → decode (.seq s.seqWord) = .ok .waitRise) ∧
    (s.st = .waitFall → decode (.seq s.seqWord) = .ok .waitFall) ∧
    (s.st = .sample → decode (.seq s.seqWord) = .ok .sample) ∧
    (s.st = .captureResponse → s.cph = .capWaitLow → decode (.seq s.seqWord) = .ok .capWaitLow) ∧
    (s.st = .captureResponse → s.cph = .capWaitHigh → decode (.seq s.seqWord) = .ok .capWaitHigh) ∧
    (s.st = .captureResponse → s.cph = .capDelay → decode (.seq s.seqWord) = .ok .capDelay)

/-- R111: a step is the decoded reset operation, or the decoded Dispatch operation, then the decoded Sampler operation
of the position at the start of the tick, then the decoded Assembler operation of the cell it emitted; around them the
wires and the `q_ovf` strobe are cleared and the next pins come up (log entries 2, 3, 4). Spec's decisions D2, D18. -/
def Obligations.StepRunsDecodedOperations : Prop :=
  ∀ s : State,
    s.beginTick = { s with qOvf := false, tap := none, frame := none, events := [] } ∧
    s.endTick = { s with stim := s.stim.drop 1, now := s.now + 1 } ∧
    (s.pins.rst = true → ∀ i t, decode (.rst s.rstWord) = .ok i → exec i s.beginTick = .next t →
      step s = .next t.endTick) ∧
    (s.pins.rst = false → ∀ d a i, decode (.disp s.dispWord) = .ok d → exec d s.beginTick = .next a →
      decode (.seq s.seqWord) = .ok i →
      (∀ r, exec i a = .refused r → step s = .refused r) ∧
      (∀ b, exec i a = .next b →
        (b.tap = none → step s = .next b.endTick) ∧
        (∀ e p t, b.tap = some e → decode (.cell (cellCode e.cell)) = .ok p → exec p b = .next t →
          step s = .next t.endTick)))

/-! ### The Sampler -/

/-- R62, the pseudocode of `HUNT_RESET`: a low line loads the guard and starts WAIT_RISE, a high line changes nothing.
The wait is on the level, without a timeout (spec's decisions D5, D7). -/
def Obligations.HuntResetWaitsForLowLevel : Prop :=
  ∀ s : State,
    (s.line = false → exec .huntReset s = .next { s with guard := s.cfg.guard, st := .waitRise }) ∧
    (s.line = true → exec .huntReset s = .next s)

/-- R63, the pseudocode of `WAIT_RISE`: a high line is a rise, also with `guard = 0`; a low line at `guard = 0` emits
a RESET cell; any other low line counts down. The priority is the spec's decision D6. -/
def Obligations.WaitRiseRisesExpiresOrCountsDown : Prop :=
  ∀ s : State,
    (s.line = true → exec .waitRise s = .next { s with st := .waitFall }) ∧
    (s.line = false → s.guard = 0#_ → exec .waitRise s = .next
      { s with st := .huntReset, tap := some ⟨.reset, .host⟩, events := s.events ++ [.cell .reset .host] }) ∧
    (s.line = false → s.guard ≠ 0#_ → exec .waitRise s = .next { s with guard := s.guard - 1#_ })

/-- R64, the pseudocode of `WAIT_FALL`: a low line loads the delay and starts SAMPLE, a high line changes nothing
(no timeout: spec's decision D7). -/
def Obligations.WaitFallWaitsForFallingEdge : Prop :=
  ∀ s : State,
    (s.line = false → exec .waitFall s = .next { s with dly := s.cfg.delay, st := .sample }) ∧
    (s.line = true → exec .waitFall s = .next s)

/-- R65, R66, R71, the pseudocode of `SAMPLE` and its successor: the delay runs down with the line ignored; then the
line level of this one tick is the cell, and a `bidir` build whose `cnt` is 15 opens the capture window, any other
goes back to HUNT_RESET. Spec's decisions D8, D9, D10, D11. -/
def Obligations.SampleClassifiesAfterDelay : Prop :=
  ∀ s : State,
    (s.dly ≠ 0#_ → exec .sample s = .next { s with dly := s.dly - 1#_ }) ∧
    (s.dly = 0#_ → ¬(s.cfg.variant = .bidir ∧ s.cnt = 15#4) → exec .sample s = .next
      { s with
        st := .huntReset
        tap := some ⟨if s.line then .one else .zero, .host⟩
        events := s.events ++ [.cell (if s.line then .one else .zero) .host] }) ∧
    (s.dly = 0#_ → s.cfg.variant = .bidir → s.cnt = 15#4 → exec .sample s = .next
      { s with
        st := .captureResponse
        cph := .capWaitLow
        win := s.cfg.window
        tap := some ⟨if s.line then .one else .zero, .host⟩
        events := s.events ++ [.cell (if s.line then .one else .zero) .host] })

/-- R72, R75, the pseudocode of `CAP_WAIT_LOW` in a `bidir` build: a low line advances and beats an expiry, a high line
at `win = 0` expires, any other high line counts the window down. Spec's decisions D11, D12. -/
def Obligations.CapWaitLowAdvancesExpiresOrCountsDown : Prop :=
  ∀ s : State, s.cfg.variant = .bidir →
    (s.line = false → exec .capWaitLow s = .next { s with cph := .capWaitHigh }) ∧
    (s.line = true → s.win = 0#_ → exec .capWaitLow s = .next
      { s with
        st := .huntReset
        cph := .capWaitLow
        tap := some ⟨.reset, .host⟩
        events := s.events ++ [.cell .reset .host, .windowExpired] }) ∧
    (s.line = true → s.win ≠ 0#_ → exec .capWaitLow s = .next { s with win := s.win - 1#_ })

/-- R73, R75, the pseudocode of `CAP_WAIT_HIGH` in a `bidir` build: a high line loads the longer delay, a low line at
`win = 0` expires, any other low line counts the same window down. Spec's decisions D11, D12. -/
def Obligations.CapWaitHighAdvancesExpiresOrCountsDown : Prop :=
  ∀ s : State, s.cfg.variant = .bidir →
    (s.line = true → exec .capWaitHigh s = .next { s with dly := s.cfg.delayResp, cph := .capDelay }) ∧
    (s.line = false → s.win = 0#_ → exec .capWaitHigh s = .next
      { s with
        st := .huntReset
        cph := .capWaitLow
        tap := some ⟨.reset, .host⟩
        events := s.events ++ [.cell .reset .host, .windowExpired] }) ∧
    (s.line = false → s.win ≠ 0#_ → exec .capWaitHigh s = .next { s with win := s.win - 1#_ })

/-- R74, the pseudocode of `CAP_DELAY` in a `bidir` build: the delay runs down without the window; then the line level
is the response cell, the window is consumed and the cycle restarts. Spec's decisions D11, D13. -/
def Obligations.CapDelayClassifiesResponse : Prop :=
  ∀ s : State, s.cfg.variant = .bidir →
    (s.dly ≠ 0#_ → exec .capDelay s = .next { s with dly := s.dly - 1#_ }) ∧
    (s.dly = 0#_ → exec .capDelay s = .next
      { s with
        st := .huntReset
        cph := .capWaitLow
        win := 0#_
        tap := some ⟨if s.line then .one else .zero, .resp⟩
        events := s.events ++ [.cell (if s.line then .one else .zero) .resp] })

/-- R77, R56 c: in a `uni` build the three capture operations do not exist; the model refuses them by name and the
well-formedness check rejects them (log entry 6). -/
def Obligations.UniBuildRefusesCaptureOperations : Prop :=
  ∀ s : State, s.cfg.variant = .uni →
    exec .capWaitLow s = .refused .captureAbsentInUni ∧ exec .capWaitHigh s = .refused .captureAbsentInUni ∧
    exec .capDelay s = .refused .captureAbsentInUni ∧
    (∀ i, WellFormed .uni i = false ↔ (i = .capWaitLow ∨ i = .capWaitHigh ∨ i = .capDelay))

/-- R77: in a `uni` build the capture is never entered, `cph` and `win` stay constant, no cell has source RESP, and
`WINDOW` and `DELAY_RESP` are no parameters: a step is the same whatever values stand in their place. For every state
that meets the invariant of R29 c, not only for reachable ones. -/
def Obligations.UniBuildNeverCaptures : Prop :=
  ∀ s t : State, s.Inv → s.cfg.variant = .uni → step s = .next t →
    t.st ≠ .captureResponse ∧ t.cph = .capWaitLow ∧ t.win.toNat = 0 ∧
    (∀ c, Event.cell c .resp ∉ t.events) ∧ (∀ e, t.tap = some e → e.src = .host) ∧ Event.windowExpired ∉ t.events ∧
    ∀ w d : Nat, step (s.withWindow w d) = .next (t.withWindow w d)

/-! ### The Assembler and the queue -/

/-- R79, R80, R81, R83, R35: a data push shifts left by one with the new bit at bit 0 and counts; the push at
`cnt = 15` enqueues the shifted word and resets the count; a full queue loses its oldest word and says so. Drop-oldest
and the strobe are the spec's decision D17, the 4-bit count is D15. -/
def Obligations.DataPushShiftsCountsAndCompletes : Prop :=
  ∀ (s : State) (b : Bool),
    (s.cnt ≠ 15#4 → exec (dataPush b) s = .next
      { s with sr := (s.sr <<< 1) ||| (BitVec.ofBool b).setWidth 16, cnt := s.cnt + 1#4 }) ∧
    (s.cnt = 15#4 → s.q.length < s.cfg.qdepth → exec (dataPush b) s = .next
      { s with
        sr := (s.sr <<< 1) ||| (BitVec.ofBool b).setWidth 16
        cnt := 0#4
        q := s.q ++ [(s.sr <<< 1) ||| (BitVec.ofBool b).setWidth 16]
        qOvf := false
        events := s.events ++ [.enqueue ((s.sr <<< 1) ||| (BitVec.ofBool b).setWidth 16)] }) ∧
    (∀ h rest, s.cnt = 15#4 → s.q = h :: rest → s.cfg.qdepth ≤ s.q.length → exec (dataPush b) s = .next
      { s with
        sr := (s.sr <<< 1) ||| (BitVec.ofBool b).setWidth 16
        cnt := 0#4
        q := rest ++ [(s.sr <<< 1) ||| (BitVec.ofBool b).setWidth 16]
        qOvf := true
        events := s.events ++ [.enqueue ((s.sr <<< 1) ||| (BitVec.ofBool b).setWidth 16), .overflow h] })

/-- R82: a RESET cell clears `sr` and `cnt`, enqueues nothing, touches nothing else, and a second one changes nothing.
Clearing `sr` is the spec's decision D15. -/
def Obligations.PushResetDiscardsPartialWord : Prop :=
  ∀ s : State, ∃ t, exec .pushReset s = .next t ∧ t = { s with sr := 0#16, cnt := 0#4 } ∧ exec .pushReset t = .next t

/-- R84 a: a word is enqueued only in a tick whose data push found `cnt = 15`, it is the shifted register, it is the
newest word of the queue, and no partial word remains. -/
def Obligations.OnlyFullWordsAreEnqueued : Prop :=
  ∀ (s t : State) (w : Word), step s = .next t → Event.enqueue w ∈ t.events →
    s.cnt = 15#4 ∧ t.cnt = 0#4 ∧ t.q.getLast? = some w ∧
    ∃ (b : Bool) (src : Source), t.tap = some ⟨dataCell b, src⟩ ∧ w = (s.sr <<< 1) ||| (BitVec.ofBool b).setWidth 16

/-- R84 b, reset robustness: whatever was pushed before, after a RESET cell the next sixteen data pushes enqueue
exactly one word, made of exactly their bits, first bit highest. -/
def Obligations.ResetCellStartsFreshWord : Prop :=
  ∀ (s : State) (before bits : List Bool), bits.length = 16 →
    ∃ t u, execAll (before.map dataPush ++ [.pushReset]) s = .next t ∧ t.cnt = 0#4 ∧
      execAll (bits.map dataPush) t = .next u ∧ u.cnt = 0#4 ∧
      enqueued u.events = enqueued t.events ++ [wordOfBits bits] ∧ u.q.getLast? = some (wordOfBits bits)

/-- R84 c: the words the Assembler enqueues for a cell stream are those of the stream cut at every RESET cell and each
piece cut into groups of sixteen from its start. -/
def Obligations.AssemblerCutsCellStream : Prop :=
  ∀ (s : State) (cs : List Cell), s.cnt = 0#4 →
    ∃ t, execAll (cs.map pushOf) s = .next t ∧ enqueued t.events = enqueued s.events ++ wordsOfCells cs

/-- R35, R133: pushes with no pop between them leave the newest `QDEPTH` words, in order. Drop-oldest is the spec's
decision D17. -/
def Obligations.QueueKeepsNewestWords : Prop :=
  ∀ (s : State) (ws : List Word), 1 ≤ s.cfg.qdepth → s.q.length ≤ s.cfg.qdepth →
    (ws.foldl State.qPush s).q = (s.q ++ ws).drop ((s.q ++ ws).length - s.cfg.qdepth)

/-- R38, R35: in one tick the pop acts on the queue at the start of the tick and the push on what the pop left; a word
is lost only if the queue is full after the pop, and then it is the oldest one. Spec's decisions D17, D18. -/
def Obligations.TickPopsThenPushes : Prop :=
  ∀ s t : State, 1 ≤ s.cfg.qdepth → s.pins.rst = false → step s = .next t →
    ((∀ w, Event.enqueue w ∉ t.events) ∧ t.q = (if s.pins.poll then s.q.tail else s.q) ∧ t.qOvf = false) ∨
    (∃ w, Event.enqueue w ∈ t.events ∧
      (((if s.pins.poll then s.q.tail else s.q).length < s.cfg.qdepth ∧
          t.q = (if s.pins.poll then s.q.tail else s.q) ++ [w] ∧ t.qOvf = false) ∨
        (∃ h rest, (if s.pins.poll then s.q.tail else s.q) = h :: rest ∧ s.cfg.qdepth ≤ rest.length + 1 ∧
          t.q = rest ++ [w] ∧ t.qOvf = true ∧ Event.overflow h ∈ t.events)))

/-- R39 a, b, c: over any number of ticks without `rst`, the words that left the queue, in order, followed by the words
still in it, are the words that were in it followed by the words enqueued. -/
def Obligations.QueueIsFirstInFirstOut : Prop :=
  ∀ (k : Nat) (s t : State) (es : List Event), s.NoReset k → runLog k s = some (es, t) →
    s.q ++ enqueued es = departed es ++ t.q

/-! ### The Validator -/

/-- R85, R86, R88, R89, R90, R91, R92: `DECODE` answers for every word in every state, its five fields are those of
the formulas, and it writes no register. That the result stands in the field `frame` is the model's choice (log entry
4). -/
def Obligations.DecodeSplitsWordAndFoldsChecksum : Prop :=
  ∀ (s : State) (w : Word), ∃ d, exec (.decode w) s = .next { s with frame := some d } ∧
    d.checksumReceived = (w &&& 0xF#16).setWidth 4 ∧
    d.throttle = (w >>> 5).setWidth 11 ∧
    (d.telemetryRequest = true ↔ (w >>> 4) &&& 1#16 = 1#16) ∧
    d.checksumExpected = ((~~~((w >>> 4) ^^^ (w >>> 8) ^^^ (w >>> 12))) &&& 0xF#16).setWidth 4 ∧
    d.checksumExpected = 0xF#4 ^^^ w.extractLsb' 4 4 ^^^ w.extractLsb' 8 4 ^^^ w.extractLsb' 12 4 ∧
    (d.checksumOk = true ↔ d.checksumReceived = d.checksumExpected)

/-- R89: the two forms of the checksum test agree on every word, and each 12-bit field has exactly one passing word. -/
def Obligations.ChecksumTestFormsAgree : Prop :=
  (∀ w : Word,
    ((decodeFrame w).checksumOk = true ↔
      w &&& 0xF#16 = ~~~((w >>> 4) ^^^ (w >>> 8) ^^^ (w >>> 12)) &&& 0xF#16) ∧
    ((decodeFrame w).checksumOk = true ↔
      w.extractLsb' 0 4 ^^^ w.extractLsb' 4 4 ^^^ w.extractLsb' 8 4 ^^^ w.extractLsb' 12 4 = 0xF#4)) ∧
  (∀ t : Field, ∃ w : Word, (throttleAndTm w = t ∧ (decodeFrame w).checksumOk = true) ∧
    ∀ v : Word, throttleAndTm v = t → (decodeFrame v).checksumOk = true → v = w)

/-- R94: decoding an encoded pair gives the pair back with a passing checksum, and every passing word is the encoding
of its own fields. -/
def Obligations.FrameEncodeDecodeRoundTrip : Prop :=
  (∀ (th : Throttle) (tm : Bool),
    decodeFrame (encodeFrame th tm) =
      { throttle := th
        telemetryRequest := tm
        checksumReceived := checksumExpected (encodeFrame th tm)
        checksumExpected := checksumExpected (encodeFrame th tm)
        checksumOk := true }) ∧
  (∀ w : Word, (decodeFrame w).checksumOk = true →
    encodeFrame (decodeFrame w).throttle (decodeFrame w).telemetryRequest = w)

/-- R95: every single-bit error in a passing word is detected, and two flips at positions equal modulo 4 cancel. -/
def Obligations.SingleBitErrorsAreDetected : Prop :=
  (∀ (w : Word) (i : Nat), i < 16 → checksumOk w = true → checksumOk (w ^^^ (1#16 <<< i)) = false) ∧
  (∀ (w : Word) (i j : Nat), i < 16 → j < 16 → i % 4 = j % 4 →
    checksumOk (w ^^^ (1#16 <<< i) ^^^ (1#16 <<< j)) = checksumOk w)

/-! ### The Dispatch agent -/

/-- R97, R98: an idle tick and a poll of an empty queue clear the strobe and change nothing else; the first is selected
by `poll = 0` whatever the queue holds, the second by `poll = 1` with nothing available. -/
def Obligations.IdleAndEmptyPollOnlyClearStrobe : Prop :=
  ∀ s : State,
    (s.pins.poll = false → decode (.disp s.dispWord) = .ok .dispIdle) ∧
    exec .dispIdle s = .next { s with outValid := false } ∧
    (s.pins.poll = true → s.qAvail = false → decode (.disp s.dispWord) = .ok .dispPollEmpty) ∧
    exec .dispPollEmpty s = .next { s with outValid := false }

/-- R99: `DISP_POP` on a queue with a word drops a word that repeats the last accepted one, and accepts, decodes and
forwards any other, whatever its checksum. The valid bit is the spec's decision D20, the treatment of failing words
D21, the output registers D22. -/
def Obligations.DispPopDropsDuplicateOrForwards : Prop :=
  ∀ (s : State) (w : Word) (rest : List Word), s.q = w :: rest →
    (s.lastValid = true → s.lastSeen = w → exec .dispPop s = .next
      { s with q := rest, outValid := false, events := s.events ++ [.dupDropped w] }) ∧
    (¬(s.lastValid = true ∧ s.lastSeen = w) → exec .dispPop s = .next
      { s with
        q := rest
        lastSeen := w
        lastValid := true
        outWord := w
        outThrottle := (decodeFrame w).throttle
        outTlm := (decodeFrame w).telemetryRequest
        outCrcRx := (decodeFrame w).checksumReceived
        outCrcExp := (decodeFrame w).checksumExpected
        outCrcOk := (decodeFrame w).checksumOk
        outValid := true
        frame := some (decodeFrame w)
        events := s.events ++ [.forward w (decodeFrame w)] })

/-- R36: a pop of an empty queue has no defined meaning; the model stops on it by name (log entry 6). -/
def Obligations.PopOfEmptyQueueStops : Prop :=
  ∀ s : State, s.q = [] → exec .dispPop s = .fault .popOfEmptyQueue

/-- R101: the same word popped twice in succession is forwarded exactly once if it was not the last accepted word, and
not at all if it was; the second pop always drops it. -/
def Obligations.RepeatedWordIsForwardedOnce : Prop :=
  ∀ (s : State) (w : Word) (rest : List Word), s.q = w :: w :: rest →
    ∃ a b, exec .dispPop s = .next a ∧ exec .dispPop a = .next b ∧ b.q = rest ∧
      a.lastValid = true ∧ a.lastSeen = w ∧ b.outValid = false ∧ b.events = a.events ++ [.dupDropped w] ∧
      (¬(s.lastValid = true ∧ s.lastSeen = w) →
        a.outValid = true ∧ a.events = s.events ++ [.forward w (decodeFrame w)]) ∧
      (s.lastValid = true ∧ s.lastSeen = w →
        a.outValid = false ∧ a.events = s.events ++ [.dupDropped w])

/-- R23: no step but a reset tick or a forward step of that word changes Last-Seen. -/
def Obligations.LastSeenChangesOnlyOnForward : Prop :=
  ∀ s t : State, s.pins.rst = false → step s = .next t →
    (t.lastSeen = s.lastSeen ∧ t.lastValid = s.lastValid) ∨
    (t.lastValid = true ∧ Event.forward t.lastSeen (decodeFrame t.lastSeen) ∈ t.events ∧ s.q.head? = some t.lastSeen ∧
      s.pins.poll = true)

/-- R100, R35: `out_valid` is 1 exactly after a tick that forwarded, `q_ovf` exactly after a tick that overflowed. The
strobes are the spec's decisions D17, D22; the `events` field is the model's (log entry 4). -/
def Obligations.StrobesReportForwardAndOverflow : Prop :=
  ∀ s t : State, step s = .next t →
    (t.outValid = true ↔ ∃ w d, Event.forward w d ∈ t.events) ∧ (t.qOvf = true ↔ ∃ w, Event.overflow w ∈ t.events)

/-- R40, R99, R23: every step keeps the output registers showing the Decoded Frame of the Last-Seen Word. -/
def Obligations.OutputsKeepShowingLastAccepted : Prop :=
  ∀ s t : State, s.OutputsShowLastAccepted → step s = .next t → t.OutputsShowLastAccepted

/-- R138: if a tick enqueues a word into an empty queue and the next tick polls, the frame is on the output registers
after that tick, unless the word repeats the last accepted one. Spec's decisions D18, D22. -/
def Obligations.WordIsForwardedOneTickAfterEnqueue : Prop :=
  ∀ (s a : State) (w : Word), s.Inv → step s = .next a → Event.enqueue w ∈ a.events → a.q = [w] →
    a.pins.rst = false → a.pins.poll = true → ¬(a.lastValid = true ∧ a.lastSeen = w) →
    ∃ b, step a = .next b ∧ b.outValid = true ∧ b.outWord = w ∧ b.outThrottle = throttleOf w ∧
      b.outTlm = telemetryRequest w ∧ b.outCrcRx = checksumReceived w ∧ b.outCrcExp = checksumExpected w ∧
      b.outCrcOk = checksumOk w

/-! ### Reset -/

/-- R119: `RST` puts every register at its reset value, in every state; the build and the pins to come stay. Spec's
decision D2. -/
def Obligations.RstResetsEveryRegister : Prop :=
  ∀ s : State, exec .rst s = .next { State.resetOf s.cfg with stim := s.stim, now := s.now }

/-- R111, R119: a tick with `rst = 1` leads to the reset state whatever the state, the line and the poll are, and
raises no event. Spec's decision D2. -/
def Obligations.ResetTickOverridesEverything : Prop :=
  ∀ s : State, s.pins.rst = true →
    step s = .next { State.resetOf s.cfg with stim := s.stim.drop 1, now := s.now + 1 }

/-- R30: the reset value of every register of the tuple of R12. Spec's decision D2. -/
def Obligations.ResetStateIsTheTable : Prop :=
  let s := State.reset
  s.st = .huntReset ∧ s.cph = .capWaitLow ∧ s.guard = 0#_ ∧ s.dly = 0#_ ∧ s.win = 0#_ ∧ s.sr = 0#16 ∧ s.cnt = 0#4 ∧
  s.q = [] ∧ s.lastSeen = 0#16 ∧ s.lastValid = false ∧ s.outValid = false ∧ s.outWord = 0#16 ∧
  s.outThrottle = 0#11 ∧ s.outTlm = false ∧ s.outCrcRx = 0#4 ∧ s.outCrcExp = 0#4 ∧ s.outCrcOk = false ∧
  s.qOvf = false ∧ s.qAvail = false

/-! ### Invariants and the whole machine -/

/-- R29: the reset state meets the invariants, for every build R7 allows. -/
def Obligations.ResetMeetsInvariants : Prop :=
  State.reset.Inv ∧ State.reset.OutputsShowLastAccepted

/-- R29: every step keeps the invariants, from every state that meets them. -/
def Obligations.StepKeepsInvariants : Prop :=
  ∀ s t : State, s.Inv → step s = .next t → t.Inv

/-- R104: from every state that meets the invariants a step goes on; nothing faults or refuses. -/
def Obligations.StepNeverStops : Prop :=
  ∀ s : State, s.Inv → ∃ t, step s = .next t

/-- R7, R114: no step changes the build, and a step takes one tick's pins and no more (log entries 1, 2). -/
def Obligations.StepKeepsBuildAndTakesOnePinSet : Prop :=
  ∀ s t : State, step s = .next t → t.cfg = s.cfg ∧ t.now = s.now + 1 ∧ ∀ k, t.pinsAt k = s.pinsAt (k + 1)

/-- R12: who writes what. A Sampler operation leaves the Dispatch registers, the Assembler's registers and the queue;
an Assembler operation leaves the Dispatch registers and the sequencer; a Dispatch operation leaves every register of
the Sampler's side; none touches the build or the pins. -/
def Obligations.OperationsWriteOnlyTheirAgentsRegisters : Prop :=
  (∀ (i : Instr) (s t : State), isSamplerOp i → exec i s = .next t →
    DispatchAgrees s t ∧ EnvironmentAgrees s t ∧ t.sr = s.sr ∧ t.cnt = s.cnt ∧ t.q = s.q ∧ t.qOvf = s.qOvf ∧
      t.frame = s.frame) ∧
  (∀ (i : Instr) (s t : State), isAssemblerOp i → exec i s = .next t →
    DispatchAgrees s t ∧ EnvironmentAgrees s t ∧ t.st = s.st ∧ t.cph = s.cph ∧ t.guard.toNat = s.guard.toNat ∧
      t.dly.toNat = s.dly.toNat ∧ t.win.toNat = s.win.toNat ∧ t.tap = s.tap ∧ t.frame = s.frame) ∧
  (∀ (i : Instr) (s t : State), isDispatchOp i → exec i s = .next t →
    SamplerAgrees s t ∧ EnvironmentAgrees s t ∧ t.qOvf = s.qOvf ∧ t.tap = s.tap)

/-- R102, R34: the Sampler is never blocked or influenced by Dispatch. Two states that agree on the Sampler's and
Assembler's registers, the line and the reset pin, and differ in anything else (queue, poll, outputs), agree on them
and on the emitted cell after a step, and both go on if one does. -/
def Obligations.SamplerIgnoresDispatch : Prop :=
  ∀ s t s' : State, SamplerAgrees s t → s.pins.rst = t.pins.rst → s.pins.line = t.pins.line → step s = .next s' →
    ∃ t', step t = .next t' ∧ SamplerAgrees s' t' ∧ s'.tap = t'.tap

/-- R12, R102: Dispatch sees nothing of the Sampler but the queue. -/
def Obligations.DispatchSeesOnlyTheQueue : Prop :=
  ∀ s t s' t' : State, DispatchAgrees s t → s.q.head? = t.q.head? → s.pins.rst = t.pins.rst →
    s.pins.poll = t.pins.poll → step s = .next s' → step t = .next t' → DispatchAgrees s' t'

/-- R111, R103: the events of a tick stand in the order Dispatch, Cell, WindowExpired, Enqueue, Overflow, and at most
one of each place occurs. -/
def Obligations.EventsStandInTraceOrder : Prop :=
  ∀ s t : State, step s = .next t → (t.events.map Event.rank).Pairwise (· < ·)

/-- R71, R66: the sample that completes a word opens the capture window in a `bidir` build and enqueues the word in the
same tick, whatever the word's telemetry bit; in a `uni` build it goes back to HUNT_RESET. Spec's decisions D9, D10,
D11. -/
def Obligations.SixteenthSampleOpensCaptureWindow : Prop :=
  ∀ s : State, s.pins.rst = false → s.st = .sample → s.dly = 0#_ → s.cnt = 15#4 →
    ∃ t, step s = .next t ∧ t.cnt = 0#4 ∧
      Event.enqueue ((s.sr <<< 1) ||| (BitVec.ofBool s.line).setWidth 16) ∈ t.events ∧
      (s.cfg.variant = .bidir → t.st = .captureResponse ∧ t.cph = .capWaitLow ∧ t.win.toNat = s.cfg.window.toNat) ∧
      (s.cfg.variant = .uni → t.st = .huntReset)

/-- R74, R127, R29 d: the response bit is pushed as the first bit of a new in-progress word and completes none. Spec's
decision D13. -/
def Obligations.ResponseBitOpensNextWord : Prop :=
  ∀ s : State, s.Inv → s.pins.rst = false → s.st = .captureResponse → s.cph = .capDelay → s.dly = 0#_ →
    ∃ t, step s = .next t ∧ t.tap = some ⟨dataCell s.line, .resp⟩ ∧ t.st = .huntReset ∧ t.win.toNat = 0 ∧
      t.cnt = 1#4 ∧ t.sr.getLsbD 0 = s.line ∧ ∀ w, Event.enqueue w ∉ t.events

/-! ### Waveforms -/

/-- R62, R64, R125: a high line holds the Sampler in HUNT_RESET or WAIT_FALL for any number of ticks; a partial word
survives and no cell is emitted. Spec's decision D7. -/
def Obligations.HighLineHoldsSampler : Prop :=
  ∀ (s : State) (n : Nat), s.st = .huntReset ∨ s.st = .waitFall → s.NoReset n → s.LineIs 0 n true →
    ∃ t, runTicks n s = .next t ∧ SamplerAgrees s t ∧ (0 < n → t.tap = none)

/-- R68 a, R63: from HUNT_RESET a line low for `GUARD + 2` ticks emits one RESET cell, at the last of them, discards
the partial word, and leaves the Sampler in HUNT_RESET. Spec's decisions D5, D6. -/
def Obligations.LongLowLineEmitsResetCell : Prop :=
  ∀ s : State, s.st = .huntReset → s.NoReset (s.cfg.guard.toNat + 2) → s.LineIs 0 (s.cfg.guard.toNat + 2) false →
    (∃ t, runTicks (s.cfg.guard.toNat + 2) s = .next t ∧ t.st = .huntReset ∧ t.tap = some ⟨.reset, .host⟩ ∧
      t.sr = 0#16 ∧ t.cnt = 0#4) ∧
    (∀ k, 0 < k → k < s.cfg.guard.toNat + 2 → ∃ u, runTicks k s = .next u ∧ u.tap = none ∧ u.cnt = s.cnt)

/-- R68 b, c: a low phase of `a` ticks, at most `GUARD + 1`, a high phase of `b` ticks and a fall emit exactly one cell,
`1 + DELAY` ticks after the fall, of the line level at that tick. Spec's decisions D5, D6, D8, D9. -/
def Obligations.PulseEmitsOneCellAfterDelay : Prop :=
  ∀ (s : State) (a b : Nat), s.st = .huntReset → 1 ≤ a → a ≤ s.cfg.guard.toNat + 1 → 1 ≤ b →
    s.NoReset (a + b + s.cfg.delay.toNat + 2) → s.LineIs 0 a false → s.LineIs a b true → s.LineIs (a + b) 1 false →
    (∃ t, runTicks (a + b + s.cfg.delay.toNat + 2) s = .next t ∧
      t.tap = some ⟨dataCell (s.pinsAt (a + b + 1 + s.cfg.delay.toNat)).line, .host⟩ ∧
      (t.st = .huntReset ∨ t.st = .captureResponse)) ∧
    (∀ k, 0 < k → k < a + b + s.cfg.delay.toNat + 2 → ∃ u, runTicks k s = .next u ∧ u.tap = none)

/-- R59: the stimulus `FRAME(w)` from HUNT_RESET with `cnt = 0` enqueues exactly `w`, at its last tick. Spec's
decisions D8, D9, D10, D27. -/
def Obligations.FrameStimulusEnqueuesItsWord : Prop :=
  ∀ (s : State) (w : Word) (mode : Bool) (rest : List Pins), s.st = .huntReset → s.cnt = 0#4 →
    s.stim = pinsOf mode (frameStim s.cfg w) ++ rest →
    ∃ es t, runTicks (16 * (s.cfg.delay.toNat + 4)) s = .next t ∧ runLog (16 * (s.cfg.delay.toNat + 4)) s = some (es, t) ∧
      enqueued es = [w] ∧ Event.enqueue w ∈ t.events ∧ t.cnt = 0#4 ∧ t.stim = rest ∧ t.q.getLast? = some w ∧
      t.st = (if s.cfg.variant = .bidir then .captureResponse else .huntReset)

/-- R59: `RESPO` and `RESPZ` at the first capture tick emit the response cell at their last tick. Spec's decisions D11,
D13, D27. -/
def Obligations.ResponseStimulusEmitsResponseCell : Prop :=
  ∀ (s : State) (b mode : Bool) (rest : List Pins), s.cfg.variant = .bidir → s.st = .captureResponse →
    s.cph = .capWaitLow → s.cnt = 0#4 →
    s.stim = pinsOf mode (if b then respo s.cfg else respz s.cfg) ++ rest →
    ∃ t, runTicks (s.cfg.delayResp.toNat + 3) s = .next t ∧ t.tap = some ⟨dataCell b, .resp⟩ ∧ t.st = .huntReset ∧
      t.cnt = 1#4 ∧ t.stim = rest

/-- R76: a capture ends after at most `WINDOW + DELAY_RESP + 3` ticks, whatever the line does, with an expiry and no
bit pending or with the response bit pushed. Spec's decisions D11, D12, D13. -/
def Obligations.CaptureAlwaysEnds : Prop :=
  ∀ s : State, s.cfg.variant = .bidir → s.st = .captureResponse → s.cph = .capWaitLow → s.win = s.cfg.window →
    s.cnt = 0#4 → s.NoReset (s.cfg.window.toNat + s.cfg.delayResp.toNat + 3) →
    ∃ k t, k ≤ s.cfg.window.toNat + s.cfg.delayResp.toNat + 3 ∧ runTicks k s = .next t ∧ t.st = .huntReset ∧
      t.cph = .capWaitLow ∧ t.win.toNat = 0 ∧
      ((t.cnt = 0#4 ∧ Event.windowExpired ∈ t.events) ∨ (t.cnt = 1#4 ∧ ∃ c, Event.cell c .resp ∈ t.events))

/-- R76, R72: with the line high throughout, the window counts down one a tick and expires at the `WINDOW + 1`-th
capture tick with a RESET cell, so that the next frame starts a fresh word. Spec's decisions D11, D12. -/
def Obligations.UnansweredWindowExpires : Prop :=
  ∀ s : State, s.cfg.variant = .bidir → s.st = .captureResponse → s.cph = .capWaitLow → s.win = s.cfg.window →
    s.NoReset (s.cfg.window.toNat + 1) → s.LineIs 0 (s.cfg.window.toNat + 1) true →
    (∀ k, k ≤ s.cfg.window.toNat → ∃ u, runTicks k s = .next u ∧ u.st = .captureResponse ∧ u.cph = .capWaitLow ∧
      u.win.toNat + k = s.cfg.window.toNat) ∧
    (∃ t, runTicks (s.cfg.window.toNat + 1) s = .next t ∧ t.st = .huntReset ∧ t.cnt = 0#4 ∧
      t.tap = some ⟨.reset, .host⟩ ∧ Event.windowExpired ∈ t.events)

/-! ### Countdowns -/

/-- R19, R20, R21: in a tick without reset each countdown keeps its value, is loaded whole with the start value of the
state that is entered, or goes from a value that is not 0 to the next lower one, so that none ever wraps; `win` can also
be cleared by the capture that consumes it. Spec's decisions D11, D25, D32. -/
def Obligations.CountdownsLoadHoldOrDecrement : Prop :=
  ∀ s t : State, s.pins.rst = false → step s = .next t →
    (t.guard.toNat = s.guard.toNat ∨
      (s.st = .huntReset ∧ t.st = .waitRise ∧ t.guard.toNat = s.cfg.guard.toNat) ∨
      (s.st = .waitRise ∧ t.st = .waitRise ∧ t.guard.toNat + 1 = s.guard.toNat)) ∧
    (t.dly.toNat = s.dly.toNat ∨
      (s.st = .waitFall ∧ t.st = .sample ∧ t.dly.toNat = s.cfg.delay.toNat) ∨
      (s.st = .captureResponse ∧ s.cph = .capWaitHigh ∧ t.cph = .capDelay ∧ t.dly.toNat = s.cfg.delayResp.toNat) ∨
      ((s.st = .sample ∨ (s.st = .captureResponse ∧ s.cph = .capDelay)) ∧ t.dly.toNat + 1 = s.dly.toNat)) ∧
    (t.win.toNat = s.win.toNat ∨
      (s.st = .sample ∧ t.st = .captureResponse ∧ t.win.toNat = s.cfg.window.toNat) ∨
      (s.st = .captureResponse ∧ s.cph ≠ .capDelay ∧ t.win.toNat + 1 = s.win.toNat) ∨
      (s.st = .captureResponse ∧ s.cph = .capDelay ∧ t.st = .huntReset ∧ t.win.toNat = 0))
end

