-- ==== Sys2Proof/Laws/Decode.lean ====
section
/-! SUPPORT. What the decoders answer to the selector codes the machine forms. -/

namespace Sys2Proof.Machine

theorem decode_seq (st : SeqState) (cph : CapPhase) :
    decode (.seq (seqStateCode st ++ capPhaseCode cph)) =
      .ok (match st with
        | .huntReset => .huntReset
        | .waitRise => .waitRise
        | .waitFall => .waitFall
        | .sample => .sample
        | .captureResponse =>
          match cph with
          | .capWaitLow => .capWaitLow
          | .capWaitHigh => .capWaitHigh
          | .capDelay => .capDelay) := by
  cases st <;> cases cph <;> decide

theorem decode_disp (poll avail : Bool) :
    decode (.disp (BitVec.ofBool poll ++ BitVec.ofBool avail)) =
      .ok (if poll then (if avail then .dispPop else .dispPollEmpty) else .dispIdle) := by
  cases poll <;> cases avail <;> decide

theorem decode_cell (c : Cell) :
    decode (.cell (cellCode c)) =
      .ok (match c with
        | .zero => .pushZero
        | .one => .pushOne
        | .reset => .pushReset) := by
  cases c <;> decide

theorem decode_rst_one : decode (.rst (BitVec.ofBool true)) = .ok .rst := by decide

theorem decode_rst_zero : decode (.rst (BitVec.ofBool false)) = .reject .nothingSelected := by decide

end Sys2Proof.Machine
end

