-- ==== Sys2Proof/Laws/State.lean ====
section
/-! SUPPORT. One lemma per field for every unconditional update of State, each true by computation, so that no later
proof unfolds an update. -/

namespace Sys2Proof.Machine

@[simp] theorem note_cfg (s : State) (e : Event) : (s.note e).cfg = s.cfg := rfl
@[simp] theorem note_st (s : State) (e : Event) : (s.note e).st = s.st := rfl
@[simp] theorem note_cph (s : State) (e : Event) : (s.note e).cph = s.cph := rfl
@[simp] theorem note_guard (s : State) (e : Event) : (s.note e).guard = s.guard := rfl
@[simp] theorem note_dly (s : State) (e : Event) : (s.note e).dly = s.dly := rfl
@[simp] theorem note_win (s : State) (e : Event) : (s.note e).win = s.win := rfl
@[simp] theorem note_sr (s : State) (e : Event) : (s.note e).sr = s.sr := rfl
@[simp] theorem note_cnt (s : State) (e : Event) : (s.note e).cnt = s.cnt := rfl
@[simp] theorem note_q (s : State) (e : Event) : (s.note e).q = s.q := rfl
@[simp] theorem note_lastSeen (s : State) (e : Event) : (s.note e).lastSeen = s.lastSeen := rfl
@[simp] theorem note_lastValid (s : State) (e : Event) : (s.note e).lastValid = s.lastValid := rfl
@[simp] theorem note_outValid (s : State) (e : Event) : (s.note e).outValid = s.outValid := rfl
@[simp] theorem note_outWord (s : State) (e : Event) : (s.note e).outWord = s.outWord := rfl
@[simp] theorem note_outThrottle (s : State) (e : Event) : (s.note e).outThrottle = s.outThrottle := rfl
@[simp] theorem note_outTlm (s : State) (e : Event) : (s.note e).outTlm = s.outTlm := rfl
@[simp] theorem note_outCrcRx (s : State) (e : Event) : (s.note e).outCrcRx = s.outCrcRx := rfl
@[simp] theorem note_outCrcExp (s : State) (e : Event) : (s.note e).outCrcExp = s.outCrcExp := rfl
@[simp] theorem note_outCrcOk (s : State) (e : Event) : (s.note e).outCrcOk = s.outCrcOk := rfl
@[simp] theorem note_qOvf (s : State) (e : Event) : (s.note e).qOvf = s.qOvf := rfl
@[simp] theorem note_stim (s : State) (e : Event) : (s.note e).stim = s.stim := rfl
@[simp] theorem note_now (s : State) (e : Event) : (s.note e).now = s.now := rfl
@[simp] theorem note_tap (s : State) (e : Event) : (s.note e).tap = s.tap := rfl
@[simp] theorem note_frame (s : State) (e : Event) : (s.note e).frame = s.frame := rfl
@[simp] theorem note_events (s : State) (e : Event) : (s.note e).events = s.events ++ [e] := rfl

@[simp] theorem emit_cfg (s : State) (c : Cell) (src : Source) : (s.emit c src).cfg = s.cfg := rfl
@[simp] theorem emit_st (s : State) (c : Cell) (src : Source) : (s.emit c src).st = s.st := rfl
@[simp] theorem emit_cph (s : State) (c : Cell) (src : Source) : (s.emit c src).cph = s.cph := rfl
@[simp] theorem emit_guard (s : State) (c : Cell) (src : Source) : (s.emit c src).guard = s.guard := rfl
@[simp] theorem emit_dly (s : State) (c : Cell) (src : Source) : (s.emit c src).dly = s.dly := rfl
@[simp] theorem emit_win (s : State) (c : Cell) (src : Source) : (s.emit c src).win = s.win := rfl
@[simp] theorem emit_sr (s : State) (c : Cell) (src : Source) : (s.emit c src).sr = s.sr := rfl
@[simp] theorem emit_cnt (s : State) (c : Cell) (src : Source) : (s.emit c src).cnt = s.cnt := rfl
@[simp] theorem emit_q (s : State) (c : Cell) (src : Source) : (s.emit c src).q = s.q := rfl
@[simp] theorem emit_lastSeen (s : State) (c : Cell) (src : Source) : (s.emit c src).lastSeen = s.lastSeen := rfl
@[simp] theorem emit_lastValid (s : State) (c : Cell) (src : Source) : (s.emit c src).lastValid = s.lastValid := rfl
@[simp] theorem emit_outValid (s : State) (c : Cell) (src : Source) : (s.emit c src).outValid = s.outValid := rfl
@[simp] theorem emit_outWord (s : State) (c : Cell) (src : Source) : (s.emit c src).outWord = s.outWord := rfl
@[simp] theorem emit_outThrottle (s : State) (c : Cell) (src : Source) : (s.emit c src).outThrottle = s.outThrottle := rfl
@[simp] theorem emit_outTlm (s : State) (c : Cell) (src : Source) : (s.emit c src).outTlm = s.outTlm := rfl
@[simp] theorem emit_outCrcRx (s : State) (c : Cell) (src : Source) : (s.emit c src).outCrcRx = s.outCrcRx := rfl
@[simp] theorem emit_outCrcExp (s : State) (c : Cell) (src : Source) : (s.emit c src).outCrcExp = s.outCrcExp := rfl
@[simp] theorem emit_outCrcOk (s : State) (c : Cell) (src : Source) : (s.emit c src).outCrcOk = s.outCrcOk := rfl
@[simp] theorem emit_qOvf (s : State) (c : Cell) (src : Source) : (s.emit c src).qOvf = s.qOvf := rfl
@[simp] theorem emit_stim (s : State) (c : Cell) (src : Source) : (s.emit c src).stim = s.stim := rfl
@[simp] theorem emit_now (s : State) (c : Cell) (src : Source) : (s.emit c src).now = s.now := rfl
@[simp] theorem emit_tap (s : State) (c : Cell) (src : Source) : (s.emit c src).tap = some ⟨c, src⟩ := rfl
@[simp] theorem emit_frame (s : State) (c : Cell) (src : Source) : (s.emit c src).frame = s.frame := rfl
@[simp] theorem emit_events (s : State) (c : Cell) (src : Source) : (s.emit c src).events = s.events ++ [.cell c src] := rfl

@[simp] theorem discardWord_cfg (s : State) : (s.discardWord).cfg = s.cfg := rfl
@[simp] theorem discardWord_st (s : State) : (s.discardWord).st = s.st := rfl
@[simp] theorem discardWord_cph (s : State) : (s.discardWord).cph = s.cph := rfl
@[simp] theorem discardWord_guard (s : State) : (s.discardWord).guard = s.guard := rfl
@[simp] theorem discardWord_dly (s : State) : (s.discardWord).dly = s.dly := rfl
@[simp] theorem discardWord_win (s : State) : (s.discardWord).win = s.win := rfl
@[simp] theorem discardWord_sr (s : State) : (s.discardWord).sr = 0#16 := rfl
@[simp] theorem discardWord_cnt (s : State) : (s.discardWord).cnt = 0#4 := rfl
@[simp] theorem discardWord_q (s : State) : (s.discardWord).q = s.q := rfl
@[simp] theorem discardWord_lastSeen (s : State) : (s.discardWord).lastSeen = s.lastSeen := rfl
@[simp] theorem discardWord_lastValid (s : State) : (s.discardWord).lastValid = s.lastValid := rfl
@[simp] theorem discardWord_outValid (s : State) : (s.discardWord).outValid = s.outValid := rfl
@[simp] theorem discardWord_outWord (s : State) : (s.discardWord).outWord = s.outWord := rfl
@[simp] theorem discardWord_outThrottle (s : State) : (s.discardWord).outThrottle = s.outThrottle := rfl
@[simp] theorem discardWord_outTlm (s : State) : (s.discardWord).outTlm = s.outTlm := rfl
@[simp] theorem discardWord_outCrcRx (s : State) : (s.discardWord).outCrcRx = s.outCrcRx := rfl
@[simp] theorem discardWord_outCrcExp (s : State) : (s.discardWord).outCrcExp = s.outCrcExp := rfl
@[simp] theorem discardWord_outCrcOk (s : State) : (s.discardWord).outCrcOk = s.outCrcOk := rfl
@[simp] theorem discardWord_qOvf (s : State) : (s.discardWord).qOvf = s.qOvf := rfl
@[simp] theorem discardWord_stim (s : State) : (s.discardWord).stim = s.stim := rfl
@[simp] theorem discardWord_now (s : State) : (s.discardWord).now = s.now := rfl
@[simp] theorem discardWord_tap (s : State) : (s.discardWord).tap = s.tap := rfl
@[simp] theorem discardWord_frame (s : State) : (s.discardWord).frame = s.frame := rfl
@[simp] theorem discardWord_events (s : State) : (s.discardWord).events = s.events := rfl

@[simp] theorem afterSample_cfg (s : State) : (s.afterSample).cfg = s.cfg := rfl
@[simp] theorem afterSample_st (s : State) : (s.afterSample).st = (if s.entersCapture then .captureResponse else .huntReset) := rfl
@[simp] theorem afterSample_cph (s : State) : (s.afterSample).cph = (if s.entersCapture then .capWaitLow else s.cph) := rfl
@[simp] theorem afterSample_guard (s : State) : (s.afterSample).guard = s.guard := rfl
@[simp] theorem afterSample_dly (s : State) : (s.afterSample).dly = s.dly := rfl
@[simp] theorem afterSample_win (s : State) : (s.afterSample).win = (if s.entersCapture then s.cfg.window else s.win) := rfl
@[simp] theorem afterSample_sr (s : State) : (s.afterSample).sr = s.sr := rfl
@[simp] theorem afterSample_cnt (s : State) : (s.afterSample).cnt = s.cnt := rfl
@[simp] theorem afterSample_q (s : State) : (s.afterSample).q = s.q := rfl
@[simp] theorem afterSample_lastSeen (s : State) : (s.afterSample).lastSeen = s.lastSeen := rfl
@[simp] theorem afterSample_lastValid (s : State) : (s.afterSample).lastValid = s.lastValid := rfl
@[simp] theorem afterSample_outValid (s : State) : (s.afterSample).outValid = s.outValid := rfl
@[simp] theorem afterSample_outWord (s : State) : (s.afterSample).outWord = s.outWord := rfl
@[simp] theorem afterSample_outThrottle (s : State) : (s.afterSample).outThrottle = s.outThrottle := rfl
@[simp] theorem afterSample_outTlm (s : State) : (s.afterSample).outTlm = s.outTlm := rfl
@[simp] theorem afterSample_outCrcRx (s : State) : (s.afterSample).outCrcRx = s.outCrcRx := rfl
@[simp] theorem afterSample_outCrcExp (s : State) : (s.afterSample).outCrcExp = s.outCrcExp := rfl
@[simp] theorem afterSample_outCrcOk (s : State) : (s.afterSample).outCrcOk = s.outCrcOk := rfl
@[simp] theorem afterSample_qOvf (s : State) : (s.afterSample).qOvf = s.qOvf := rfl
@[simp] theorem afterSample_stim (s : State) : (s.afterSample).stim = s.stim := rfl
@[simp] theorem afterSample_now (s : State) : (s.afterSample).now = s.now := rfl
@[simp] theorem afterSample_tap (s : State) : (s.afterSample).tap = s.tap := rfl
@[simp] theorem afterSample_frame (s : State) : (s.afterSample).frame = s.frame := rfl
@[simp] theorem afterSample_events (s : State) : (s.afterSample).events = s.events := rfl

@[simp] theorem expire_cfg (s : State) : (s.expire).cfg = s.cfg := rfl
@[simp] theorem expire_st (s : State) : (s.expire).st = .huntReset := rfl
@[simp] theorem expire_cph (s : State) : (s.expire).cph = .capWaitLow := rfl
@[simp] theorem expire_guard (s : State) : (s.expire).guard = s.guard := rfl
@[simp] theorem expire_dly (s : State) : (s.expire).dly = s.dly := rfl
@[simp] theorem expire_win (s : State) : (s.expire).win = s.win := rfl
@[simp] theorem expire_sr (s : State) : (s.expire).sr = s.sr := rfl
@[simp] theorem expire_cnt (s : State) : (s.expire).cnt = s.cnt := rfl
@[simp] theorem expire_q (s : State) : (s.expire).q = s.q := rfl
@[simp] theorem expire_lastSeen (s : State) : (s.expire).lastSeen = s.lastSeen := rfl
@[simp] theorem expire_lastValid (s : State) : (s.expire).lastValid = s.lastValid := rfl
@[simp] theorem expire_outValid (s : State) : (s.expire).outValid = s.outValid := rfl
@[simp] theorem expire_outWord (s : State) : (s.expire).outWord = s.outWord := rfl
@[simp] theorem expire_outThrottle (s : State) : (s.expire).outThrottle = s.outThrottle := rfl
@[simp] theorem expire_outTlm (s : State) : (s.expire).outTlm = s.outTlm := rfl
@[simp] theorem expire_outCrcRx (s : State) : (s.expire).outCrcRx = s.outCrcRx := rfl
@[simp] theorem expire_outCrcExp (s : State) : (s.expire).outCrcExp = s.outCrcExp := rfl
@[simp] theorem expire_outCrcOk (s : State) : (s.expire).outCrcOk = s.outCrcOk := rfl
@[simp] theorem expire_qOvf (s : State) : (s.expire).qOvf = s.qOvf := rfl
@[simp] theorem expire_stim (s : State) : (s.expire).stim = s.stim := rfl
@[simp] theorem expire_now (s : State) : (s.expire).now = s.now := rfl
@[simp] theorem expire_tap (s : State) : (s.expire).tap = some ⟨.reset, .host⟩ := rfl
@[simp] theorem expire_frame (s : State) : (s.expire).frame = s.frame := rfl
@[simp] theorem expire_events (s : State) : (s.expire).events = s.events ++ [.cell .reset .host] ++ [.windowExpired] := rfl

@[simp] theorem validate_cfg (s : State) (w : Word) : (s.validate w).cfg = s.cfg := rfl
@[simp] theorem validate_st (s : State) (w : Word) : (s.validate w).st = s.st := rfl
@[simp] theorem validate_cph (s : State) (w : Word) : (s.validate w).cph = s.cph := rfl
@[simp] theorem validate_guard (s : State) (w : Word) : (s.validate w).guard = s.guard := rfl
@[simp] theorem validate_dly (s : State) (w : Word) : (s.validate w).dly = s.dly := rfl
@[simp] theorem validate_win (s : State) (w : Word) : (s.validate w).win = s.win := rfl
@[simp] theorem validate_sr (s : State) (w : Word) : (s.validate w).sr = s.sr := rfl
@[simp] theorem validate_cnt (s : State) (w : Word) : (s.validate w).cnt = s.cnt := rfl
@[simp] theorem validate_q (s : State) (w : Word) : (s.validate w).q = s.q := rfl
@[simp] theorem validate_lastSeen (s : State) (w : Word) : (s.validate w).lastSeen = s.lastSeen := rfl
@[simp] theorem validate_lastValid (s : State) (w : Word) : (s.validate w).lastValid = s.lastValid := rfl
@[simp] theorem validate_outValid (s : State) (w : Word) : (s.validate w).outValid = s.outValid := rfl
@[simp] theorem validate_outWord (s : State) (w : Word) : (s.validate w).outWord = s.outWord := rfl
@[simp] theorem validate_outThrottle (s : State) (w : Word) : (s.validate w).outThrottle = s.outThrottle := rfl
@[simp] theorem validate_outTlm (s : State) (w : Word) : (s.validate w).outTlm = s.outTlm := rfl
@[simp] theorem validate_outCrcRx (s : State) (w : Word) : (s.validate w).outCrcRx = s.outCrcRx := rfl
@[simp] theorem validate_outCrcExp (s : State) (w : Word) : (s.validate w).outCrcExp = s.outCrcExp := rfl
@[simp] theorem validate_outCrcOk (s : State) (w : Word) : (s.validate w).outCrcOk = s.outCrcOk := rfl
@[simp] theorem validate_qOvf (s : State) (w : Word) : (s.validate w).qOvf = s.qOvf := rfl
@[simp] theorem validate_stim (s : State) (w : Word) : (s.validate w).stim = s.stim := rfl
@[simp] theorem validate_now (s : State) (w : Word) : (s.validate w).now = s.now := rfl
@[simp] theorem validate_tap (s : State) (w : Word) : (s.validate w).tap = s.tap := rfl
@[simp] theorem validate_frame (s : State) (w : Word) : (s.validate w).frame = some (decodeFrame w) := rfl
@[simp] theorem validate_events (s : State) (w : Word) : (s.validate w).events = s.events := rfl

@[simp] theorem forward_cfg (s : State) (w : Word) : (s.forward w).cfg = s.cfg := rfl
@[simp] theorem forward_st (s : State) (w : Word) : (s.forward w).st = s.st := rfl
@[simp] theorem forward_cph (s : State) (w : Word) : (s.forward w).cph = s.cph := rfl
@[simp] theorem forward_guard (s : State) (w : Word) : (s.forward w).guard = s.guard := rfl
@[simp] theorem forward_dly (s : State) (w : Word) : (s.forward w).dly = s.dly := rfl
@[simp] theorem forward_win (s : State) (w : Word) : (s.forward w).win = s.win := rfl
@[simp] theorem forward_sr (s : State) (w : Word) : (s.forward w).sr = s.sr := rfl
@[simp] theorem forward_cnt (s : State) (w : Word) : (s.forward w).cnt = s.cnt := rfl
@[simp] theorem forward_q (s : State) (w : Word) : (s.forward w).q = s.q := rfl
@[simp] theorem forward_lastSeen (s : State) (w : Word) : (s.forward w).lastSeen = w := rfl
@[simp] theorem forward_lastValid (s : State) (w : Word) : (s.forward w).lastValid = true := rfl
@[simp] theorem forward_outValid (s : State) (w : Word) : (s.forward w).outValid = true := rfl
@[simp] theorem forward_outWord (s : State) (w : Word) : (s.forward w).outWord = w := rfl
@[simp] theorem forward_outThrottle (s : State) (w : Word) : (s.forward w).outThrottle = throttleOf w := rfl
@[simp] theorem forward_outTlm (s : State) (w : Word) : (s.forward w).outTlm = telemetryRequest w := rfl
@[simp] theorem forward_outCrcRx (s : State) (w : Word) : (s.forward w).outCrcRx = checksumReceived w := rfl
@[simp] theorem forward_outCrcExp (s : State) (w : Word) : (s.forward w).outCrcExp = checksumExpected w := rfl
@[simp] theorem forward_outCrcOk (s : State) (w : Word) : (s.forward w).outCrcOk = checksumOk w := rfl
@[simp] theorem forward_qOvf (s : State) (w : Word) : (s.forward w).qOvf = s.qOvf := rfl
@[simp] theorem forward_stim (s : State) (w : Word) : (s.forward w).stim = s.stim := rfl
@[simp] theorem forward_now (s : State) (w : Word) : (s.forward w).now = s.now := rfl
@[simp] theorem forward_tap (s : State) (w : Word) : (s.forward w).tap = s.tap := rfl
@[simp] theorem forward_frame (s : State) (w : Word) : (s.forward w).frame = some (decodeFrame w) := rfl
@[simp] theorem forward_events (s : State) (w : Word) : (s.forward w).events = s.events ++ [.forward w (decodeFrame w)] := rfl

@[simp] theorem dropDuplicate_cfg (s : State) (w : Word) : (s.dropDuplicate w).cfg = s.cfg := rfl
@[simp] theorem dropDuplicate_st (s : State) (w : Word) : (s.dropDuplicate w).st = s.st := rfl
@[simp] theorem dropDuplicate_cph (s : State) (w : Word) : (s.dropDuplicate w).cph = s.cph := rfl
@[simp] theorem dropDuplicate_guard (s : State) (w : Word) : (s.dropDuplicate w).guard = s.guard := rfl
@[simp] theorem dropDuplicate_dly (s : State) (w : Word) : (s.dropDuplicate w).dly = s.dly := rfl
@[simp] theorem dropDuplicate_win (s : State) (w : Word) : (s.dropDuplicate w).win = s.win := rfl
@[simp] theorem dropDuplicate_sr (s : State) (w : Word) : (s.dropDuplicate w).sr = s.sr := rfl
@[simp] theorem dropDuplicate_cnt (s : State) (w : Word) : (s.dropDuplicate w).cnt = s.cnt := rfl
@[simp] theorem dropDuplicate_q (s : State) (w : Word) : (s.dropDuplicate w).q = s.q := rfl
@[simp] theorem dropDuplicate_lastSeen (s : State) (w : Word) : (s.dropDuplicate w).lastSeen = s.lastSeen := rfl
@[simp] theorem dropDuplicate_lastValid (s : State) (w : Word) : (s.dropDuplicate w).lastValid = s.lastValid := rfl
@[simp] theorem dropDuplicate_outValid (s : State) (w : Word) : (s.dropDuplicate w).outValid = false := rfl
@[simp] theorem dropDuplicate_outWord (s : State) (w : Word) : (s.dropDuplicate w).outWord = s.outWord := rfl
@[simp] theorem dropDuplicate_outThrottle (s : State) (w : Word) : (s.dropDuplicate w).outThrottle = s.outThrottle := rfl
@[simp] theorem dropDuplicate_outTlm (s : State) (w : Word) : (s.dropDuplicate w).outTlm = s.outTlm := rfl
@[simp] theorem dropDuplicate_outCrcRx (s : State) (w : Word) : (s.dropDuplicate w).outCrcRx = s.outCrcRx := rfl
@[simp] theorem dropDuplicate_outCrcExp (s : State) (w : Word) : (s.dropDuplicate w).outCrcExp = s.outCrcExp := rfl
@[simp] theorem dropDuplicate_outCrcOk (s : State) (w : Word) : (s.dropDuplicate w).outCrcOk = s.outCrcOk := rfl
@[simp] theorem dropDuplicate_qOvf (s : State) (w : Word) : (s.dropDuplicate w).qOvf = s.qOvf := rfl
@[simp] theorem dropDuplicate_stim (s : State) (w : Word) : (s.dropDuplicate w).stim = s.stim := rfl
@[simp] theorem dropDuplicate_now (s : State) (w : Word) : (s.dropDuplicate w).now = s.now := rfl
@[simp] theorem dropDuplicate_tap (s : State) (w : Word) : (s.dropDuplicate w).tap = s.tap := rfl
@[simp] theorem dropDuplicate_frame (s : State) (w : Word) : (s.dropDuplicate w).frame = s.frame := rfl
@[simp] theorem dropDuplicate_events (s : State) (w : Word) : (s.dropDuplicate w).events = s.events ++ [.dupDropped w] := rfl

@[simp] theorem resetRegs_cfg (s : State) : (s.resetRegs).cfg = s.cfg := rfl
@[simp] theorem resetRegs_st (s : State) : (s.resetRegs).st = .huntReset := rfl
@[simp] theorem resetRegs_cph (s : State) : (s.resetRegs).cph = .capWaitLow := rfl
@[simp] theorem resetRegs_guard (s : State) : (s.resetRegs).guard = 0#_ := rfl
@[simp] theorem resetRegs_dly (s : State) : (s.resetRegs).dly = 0#_ := rfl
@[simp] theorem resetRegs_win (s : State) : (s.resetRegs).win = 0#_ := rfl
@[simp] theorem resetRegs_sr (s : State) : (s.resetRegs).sr = 0#16 := rfl
@[simp] theorem resetRegs_cnt (s : State) : (s.resetRegs).cnt = 0#4 := rfl
@[simp] theorem resetRegs_q (s : State) : (s.resetRegs).q = [] := rfl
@[simp] theorem resetRegs_lastSeen (s : State) : (s.resetRegs).lastSeen = 0#16 := rfl
@[simp] theorem resetRegs_lastValid (s : State) : (s.resetRegs).lastValid = false := rfl
@[simp] theorem resetRegs_outValid (s : State) : (s.resetRegs).outValid = false := rfl
@[simp] theorem resetRegs_outWord (s : State) : (s.resetRegs).outWord = 0#16 := rfl
@[simp] theorem resetRegs_outThrottle (s : State) : (s.resetRegs).outThrottle = 0#11 := rfl
@[simp] theorem resetRegs_outTlm (s : State) : (s.resetRegs).outTlm = false := rfl
@[simp] theorem resetRegs_outCrcRx (s : State) : (s.resetRegs).outCrcRx = 0#4 := rfl
@[simp] theorem resetRegs_outCrcExp (s : State) : (s.resetRegs).outCrcExp = 0#4 := rfl
@[simp] theorem resetRegs_outCrcOk (s : State) : (s.resetRegs).outCrcOk = false := rfl
@[simp] theorem resetRegs_qOvf (s : State) : (s.resetRegs).qOvf = false := rfl
@[simp] theorem resetRegs_stim (s : State) : (s.resetRegs).stim = s.stim := rfl
@[simp] theorem resetRegs_now (s : State) : (s.resetRegs).now = s.now := rfl
@[simp] theorem resetRegs_tap (s : State) : (s.resetRegs).tap = none := rfl
@[simp] theorem resetRegs_frame (s : State) : (s.resetRegs).frame = none := rfl
@[simp] theorem resetRegs_events (s : State) : (s.resetRegs).events = [] := rfl

@[simp] theorem beginTick_cfg (s : State) : (s.beginTick).cfg = s.cfg := rfl
@[simp] theorem beginTick_st (s : State) : (s.beginTick).st = s.st := rfl
@[simp] theorem beginTick_cph (s : State) : (s.beginTick).cph = s.cph := rfl
@[simp] theorem beginTick_guard (s : State) : (s.beginTick).guard = s.guard := rfl
@[simp] theorem beginTick_dly (s : State) : (s.beginTick).dly = s.dly := rfl
@[simp] theorem beginTick_win (s : State) : (s.beginTick).win = s.win := rfl
@[simp] theorem beginTick_sr (s : State) : (s.beginTick).sr = s.sr := rfl
@[simp] theorem beginTick_cnt (s : State) : (s.beginTick).cnt = s.cnt := rfl
@[simp] theorem beginTick_q (s : State) : (s.beginTick).q = s.q := rfl
@[simp] theorem beginTick_lastSeen (s : State) : (s.beginTick).lastSeen = s.lastSeen := rfl
@[simp] theorem beginTick_lastValid (s : State) : (s.beginTick).lastValid = s.lastValid := rfl
@[simp] theorem beginTick_outValid (s : State) : (s.beginTick).outValid = s.outValid := rfl
@[simp] theorem beginTick_outWord (s : State) : (s.beginTick).outWord = s.outWord := rfl
@[simp] theorem beginTick_outThrottle (s : State) : (s.beginTick).outThrottle = s.outThrottle := rfl
@[simp] theorem beginTick_outTlm (s : State) : (s.beginTick).outTlm = s.outTlm := rfl
@[simp] theorem beginTick_outCrcRx (s : State) : (s.beginTick).outCrcRx = s.outCrcRx := rfl
@[simp] theorem beginTick_outCrcExp (s : State) : (s.beginTick).outCrcExp = s.outCrcExp := rfl
@[simp] theorem beginTick_outCrcOk (s : State) : (s.beginTick).outCrcOk = s.outCrcOk := rfl
@[simp] theorem beginTick_qOvf (s : State) : (s.beginTick).qOvf = false := rfl
@[simp] theorem beginTick_stim (s : State) : (s.beginTick).stim = s.stim := rfl
@[simp] theorem beginTick_now (s : State) : (s.beginTick).now = s.now := rfl
@[simp] theorem beginTick_tap (s : State) : (s.beginTick).tap = none := rfl
@[simp] theorem beginTick_frame (s : State) : (s.beginTick).frame = none := rfl
@[simp] theorem beginTick_events (s : State) : (s.beginTick).events = [] := rfl

@[simp] theorem endTick_cfg (s : State) : (s.endTick).cfg = s.cfg := rfl
@[simp] theorem endTick_st (s : State) : (s.endTick).st = s.st := rfl
@[simp] theorem endTick_cph (s : State) : (s.endTick).cph = s.cph := rfl
@[simp] theorem endTick_guard (s : State) : (s.endTick).guard = s.guard := rfl
@[simp] theorem endTick_dly (s : State) : (s.endTick).dly = s.dly := rfl
@[simp] theorem endTick_win (s : State) : (s.endTick).win = s.win := rfl
@[simp] theorem endTick_sr (s : State) : (s.endTick).sr = s.sr := rfl
@[simp] theorem endTick_cnt (s : State) : (s.endTick).cnt = s.cnt := rfl
@[simp] theorem endTick_q (s : State) : (s.endTick).q = s.q := rfl
@[simp] theorem endTick_lastSeen (s : State) : (s.endTick).lastSeen = s.lastSeen := rfl
@[simp] theorem endTick_lastValid (s : State) : (s.endTick).lastValid = s.lastValid := rfl
@[simp] theorem endTick_outValid (s : State) : (s.endTick).outValid = s.outValid := rfl
@[simp] theorem endTick_outWord (s : State) : (s.endTick).outWord = s.outWord := rfl
@[simp] theorem endTick_outThrottle (s : State) : (s.endTick).outThrottle = s.outThrottle := rfl
@[simp] theorem endTick_outTlm (s : State) : (s.endTick).outTlm = s.outTlm := rfl
@[simp] theorem endTick_outCrcRx (s : State) : (s.endTick).outCrcRx = s.outCrcRx := rfl
@[simp] theorem endTick_outCrcExp (s : State) : (s.endTick).outCrcExp = s.outCrcExp := rfl
@[simp] theorem endTick_outCrcOk (s : State) : (s.endTick).outCrcOk = s.outCrcOk := rfl
@[simp] theorem endTick_qOvf (s : State) : (s.endTick).qOvf = s.qOvf := rfl
@[simp] theorem endTick_stim (s : State) : (s.endTick).stim = s.stim.drop 1 := rfl
@[simp] theorem endTick_now (s : State) : (s.endTick).now = s.now + 1 := rfl
@[simp] theorem endTick_tap (s : State) : (s.endTick).tap = s.tap := rfl
@[simp] theorem endTick_frame (s : State) : (s.endTick).frame = s.frame := rfl
@[simp] theorem endTick_events (s : State) : (s.endTick).events = s.events := rfl

@[simp] theorem withPins_cfg (s : State) (p : Pins) : (s.withPins p).cfg = s.cfg := rfl
@[simp] theorem withPins_st (s : State) (p : Pins) : (s.withPins p).st = s.st := rfl
@[simp] theorem withPins_cph (s : State) (p : Pins) : (s.withPins p).cph = s.cph := rfl
@[simp] theorem withPins_guard (s : State) (p : Pins) : (s.withPins p).guard = s.guard := rfl
@[simp] theorem withPins_dly (s : State) (p : Pins) : (s.withPins p).dly = s.dly := rfl
@[simp] theorem withPins_win (s : State) (p : Pins) : (s.withPins p).win = s.win := rfl
@[simp] theorem withPins_sr (s : State) (p : Pins) : (s.withPins p).sr = s.sr := rfl
@[simp] theorem withPins_cnt (s : State) (p : Pins) : (s.withPins p).cnt = s.cnt := rfl
@[simp] theorem withPins_q (s : State) (p : Pins) : (s.withPins p).q = s.q := rfl
@[simp] theorem withPins_lastSeen (s : State) (p : Pins) : (s.withPins p).lastSeen = s.lastSeen := rfl
@[simp] theorem withPins_lastValid (s : State) (p : Pins) : (s.withPins p).lastValid = s.lastValid := rfl
@[simp] theorem withPins_outValid (s : State) (p : Pins) : (s.withPins p).outValid = s.outValid := rfl
@[simp] theorem withPins_outWord (s : State) (p : Pins) : (s.withPins p).outWord = s.outWord := rfl
@[simp] theorem withPins_outThrottle (s : State) (p : Pins) : (s.withPins p).outThrottle = s.outThrottle := rfl
@[simp] theorem withPins_outTlm (s : State) (p : Pins) : (s.withPins p).outTlm = s.outTlm := rfl
@[simp] theorem withPins_outCrcRx (s : State) (p : Pins) : (s.withPins p).outCrcRx = s.outCrcRx := rfl
@[simp] theorem withPins_outCrcExp (s : State) (p : Pins) : (s.withPins p).outCrcExp = s.outCrcExp := rfl
@[simp] theorem withPins_outCrcOk (s : State) (p : Pins) : (s.withPins p).outCrcOk = s.outCrcOk := rfl
@[simp] theorem withPins_qOvf (s : State) (p : Pins) : (s.withPins p).qOvf = s.qOvf := rfl
@[simp] theorem withPins_stim (s : State) (p : Pins) : (s.withPins p).stim = p :: s.stim.drop 1 := rfl
@[simp] theorem withPins_now (s : State) (p : Pins) : (s.withPins p).now = s.now := rfl
@[simp] theorem withPins_tap (s : State) (p : Pins) : (s.withPins p).tap = s.tap := rfl
@[simp] theorem withPins_frame (s : State) (p : Pins) : (s.withPins p).frame = s.frame := rfl
@[simp] theorem withPins_events (s : State) (p : Pins) : (s.withPins p).events = s.events := rfl

end Sys2Proof.Machine
end

