-- ==== Sys2Proof/Laws/Ops.lean ====
section
/-! SUPPORT. For each shared operation, once, what it can do; the provers cite these instead of unfolding. -/

namespace Sys2Proof.Machine

/-! ### Outcomes -/

@[simp] theorem andThen_next (s : State) (f : State → Out) : andThen (.next s) f = f s := rfl
@[simp] theorem andThen_fault (r : Fault) (f : State → Out) : andThen (.fault r) f = .fault r := rfl
@[simp] theorem andThen_refused (r : Refusal) (f : State → Out) : andThen (.refused r) f = .refused r := rfl

theorem andThen_eq_next {o : Out} {f : State → Out} {t : State} :
    andThen o f = .next t ↔ ∃ s, o = .next s ∧ f s = .next t := by
  cases o <;> simp

/-! ### Pins -/

theorem pins_eq (s : State) : s.pins = s.pinsAt 0 := rfl

@[simp] theorem pinsAt_cons_zero (s : State) (p : Pins) (ps : List Pins) (h : s.stim = p :: ps) :
    s.pinsAt 0 = p := by simp [State.pinsAt, h]

/-- The pins depend on the stimulus and the tick count only. -/
theorem pinsAt_congr {s t : State} (hs : s.stim = t.stim) (hn : s.now = t.now) (k : Nat) :
    s.pinsAt k = t.pinsAt k := by simp [State.pinsAt, hs, hn]

/-- Ending a tick moves the pins one tick on. -/
@[simp] theorem endTick_pinsAt (s : State) (k : Nat) : s.endTick.pinsAt k = s.pinsAt (k + 1) := by
  simp [State.pinsAt, Nat.add_comm 1 k, Nat.add_assoc]

/-- Placed pins are the pins of the next tick. -/
@[simp] theorem withPins_pins (s : State) (p : Pins) : (s.withPins p).pins = p := rfl

/-! ### The queue -/

theorem qPush_room {s : State} (w : Word) (h : s.q.length < s.cfg.qdepth) :
    s.qPush w = { s with q := s.q ++ [w], qOvf := false } := by simp [State.qPush, h]

theorem qPush_full {s : State} (w x : Word) (rest : List Word) (hq : s.q = x :: rest)
    (h : s.cfg.qdepth ≤ s.q.length) :
    s.qPush w = { s with q := rest ++ [w], qOvf := true, events := s.events ++ [.overflow x] } := by
  rw [State.qPush, if_neg (by omega)]
  simp [hq]

/-- A push writes the queue, the overflow strobe and the events, and nothing else; the pushed word is the newest. -/
theorem qPush_cases (s : State) (w : Word) :
    (s.qPush w = { s with q := s.q ++ [w], qOvf := false } ∧ (s.q.length < s.cfg.qdepth ∨ s.q = [])) ∨
    (∃ x rest, s.q = x :: rest ∧ s.cfg.qdepth ≤ s.q.length ∧
      s.qPush w = { s with q := rest ++ [w], qOvf := true, events := s.events ++ [.overflow x] }) := by
  by_cases h : s.q.length < s.cfg.qdepth
  · exact .inl ⟨qPush_room w h, .inl h⟩
  · rcases hq : s.q with _ | ⟨x, rest⟩
    · exact .inl ⟨by simp [State.qPush, hq], .inr rfl⟩
    · exact .inr ⟨x, rest, rfl, by rw [← hq]; omega, qPush_full w x rest hq (by omega)⟩

/-- A pop takes the head. -/
theorem qPop_cons {s : State} {w : Word} {rest : List Word} (h : s.q = w :: rest) :
    s.qPop = some (w, { s with q := rest }) := by simp [State.qPop, h]

theorem qPop_nil {s : State} (h : s.q = []) : s.qPop = none := by simp [State.qPop, h]

/-! ### The push of a cell -/

theorem pushCount_full : pushCount 15#4 = 16#5 := by decide

theorem pushCount_partial (c : BitVec 4) (h : c ≠ 15#4) :
    pushCount c ≠ 16#5 ∧ (pushCount c).setWidth 4 = c + 1#4 := by
  revert c; decide

/-- A data push that does not complete a word: shift and count. -/
theorem pushBit_partial {s : State} (b : Bool) (h : s.cnt ≠ 15#4) :
    s.pushBit b = { s with sr := shiftIn s.sr b, cnt := s.cnt + 1#4 } := by
  simp [State.pushBit, (pushCount_partial s.cnt h).1, (pushCount_partial s.cnt h).2]

/-- The sixteenth data push: the shifted word is enqueued and the count starts again. -/
theorem pushBit_full {s : State} (b : Bool) (h : s.cnt = 15#4) :
    s.pushBit b =
      ({ s with
          sr := shiftIn s.sr b
          cnt := 0#4
          events := s.events ++ [.enqueue (shiftIn s.sr b)] } : State).qPush (shiftIn s.sr b) := by
  simp [State.pushBit, h, pushCount_full, State.complete]

/-- Everything a data push can do. -/
theorem pushBit_cases (s : State) (b : Bool) :
    (s.cnt ≠ 15#4 ∧ s.pushBit b = { s with sr := shiftIn s.sr b, cnt := s.cnt + 1#4 }) ∨
    (s.cnt = 15#4 ∧ (s.q.length < s.cfg.qdepth ∨ s.q = []) ∧
      s.pushBit b = { s with
        sr := shiftIn s.sr b
        cnt := 0#4
        q := s.q ++ [shiftIn s.sr b]
        qOvf := false
        events := s.events ++ [.enqueue (shiftIn s.sr b)] }) ∨
    (∃ x rest, s.cnt = 15#4 ∧ s.q = x :: rest ∧ s.cfg.qdepth ≤ s.q.length ∧
      s.pushBit b = { s with
        sr := shiftIn s.sr b
        cnt := 0#4
        q := rest ++ [shiftIn s.sr b]
        qOvf := true
        events := s.events ++ [.enqueue (shiftIn s.sr b)] ++ [.overflow x] }) := by
  by_cases h : s.cnt = 15#4
  · rw [pushBit_full b h]
    rcases qPush_cases { s with sr := shiftIn s.sr b, cnt := 0#4, events := s.events ++ [.enqueue (shiftIn s.sr b)] }
      (shiftIn s.sr b) with ⟨he, hr⟩ | ⟨x, rest, hq, hl, he⟩
    · exact .inr (.inl ⟨h, hr, he⟩)
    · exact .inr (.inr ⟨x, rest, h, hq, hl, he⟩)
  · exact .inl ⟨h, pushBit_partial b h⟩

/-! ### Countdowns -/

/-- A countdown has run down exactly when its number is 0. -/
theorem countdown_eq_zero {n : Nat} (x : BitVec n) : x = 0#n ↔ x.toNat = 0 := by
  rw [← BitVec.toNat_inj]; simp

/-- A countdown that has not run down does not wrap when it is decremented (R19, R20, R21). -/
theorem countdown_pred {n : Nat} {x : BitVec n} (h : x ≠ 0#n) : (x - 1#n).toNat = x.toNat - 1 := by
  have hx : x.toNat ≠ 0 := fun h0 => h ((countdown_eq_zero x).2 h0)
  rcases n with _ | n
  · exact absurd (BitVec.of_length_zero) h
  · have h1 : (1#(n + 1)).toNat = 1 := by simp
    rw [BitVec.toNat_sub_of_le (by rw [BitVec.le_def, h1]; omega), h1]

/-! ### The capture window -/

theorem windowTick_zero {s : State} (h : s.win = 0#_) : s.windowTick = s.expire := by simp [State.windowTick, h]

theorem windowTick_pos {s : State} (h : s.win ≠ 0#_) : s.windowTick = { s with win := s.win - 1#_ } := by
  rw [State.windowTick, if_neg h]

/-! ### The build -/

/-- The build of the reset state is legal (R7). -/
theorem build_wf : Config.build.wf = true := by
  unfold Config.build
  split
  · assumption
  · decide

end Sys2Proof.Machine
end

