-- ==== Sys2Proof/Laws/PerInstr.lean ====
section
/-! SUPPORT. The family `EncodesToItsRow`: an operation's code has the format of its opcode-table row and carries the
row's fixed bits. -/

namespace Sys2Proof.Laws.EncodesToItsRow

/-- The code of `i` fits the row of `i`. -/
def Statement (i : Instr) : Prop := (tableRow i).fits (encode i) = true

theorem huntReset : Statement .huntReset := by unfold Statement; decide
theorem waitRise : Statement .waitRise := by unfold Statement; decide
theorem waitFall : Statement .waitFall := by unfold Statement; decide
theorem sample : Statement .sample := by unfold Statement; decide
theorem capWaitLow : Statement .capWaitLow := by unfold Statement; decide
theorem capWaitHigh : Statement .capWaitHigh := by unfold Statement; decide
theorem capDelay : Statement .capDelay := by unfold Statement; decide
theorem pushZero : Statement .pushZero := by unfold Statement; decide
theorem pushOne : Statement .pushOne := by unfold Statement; decide
theorem pushReset : Statement .pushReset := by unfold Statement; decide
theorem decode (w : Word) : Statement (.decode w) := by simp [Statement, tableRow, encode, Row.fits, Code.format]
theorem dispIdle : Statement .dispIdle := by unfold Statement; decide
theorem dispPollEmpty : Statement .dispPollEmpty := by unfold Statement; decide
theorem dispPop : Statement .dispPop := by unfold Statement; decide
theorem rst : Statement .rst := by unfold Statement; decide

end Sys2Proof.Laws.EncodesToItsRow
end

