-- ==== Sys2Proof/Laws/Step.lean ====
section
/-! SUPPORT. Once, what a step does: the decoded selectors, the three parts of a tick as plain functions, and the step
as their composition. -/

namespace Sys2Proof.Machine

/-- The Sampler operation of a position (R50). -/
def State.samplerInstr (s : State) : Instr :=
  match s.st with
  | .huntReset => .huntReset
  | .waitRise => .waitRise
  | .waitFall => .waitFall
  | .sample => .sample
  | .captureResponse =>
    match s.cph with
    | .capWaitLow => .capWaitLow
    | .capWaitHigh => .capWaitHigh
    | .capDelay => .capDelay

/-- The effect of the Dispatch operation that the pins and the queue select (R97 to R99). -/
def State.dispatched (s : State) : State :=
  if s.pins.poll then
    match s.q with
    | [] => { s with outValid := false }
    | w :: rest =>
      if s.lastValid = true ∧ w = s.lastSeen then ({ s with q := rest } : State).dropDuplicate w
      else ({ s with q := rest } : State).forward w
  else { s with outValid := false }

/-- The effect of the Assembler operation of the cell on the wires (R78). -/
def State.assembled (s : State) : State :=
  match s.tap with
  | none => s
  | some ⟨.zero, _⟩ => s.pushBit false
  | some ⟨.one, _⟩ => s.pushBit true
  | some ⟨.reset, _⟩ => s.discardWord

/-- Every position the State can express decodes to its operation (R50, R56). -/
theorem decode_seqWord (s : State) : decode (.seq s.seqWord) = .ok s.samplerInstr := decode_seq s.st s.cph

theorem runCode_seq (s a : State) : runCode (.seq s.seqWord) a = exec s.samplerInstr a := by
  simp [runCode, decode_seqWord]

/-- What `DISP_POP` does with the head of the queue. -/
theorem execDispPop_cons {s : State} {w : Word} {rest : List Word} (h : s.q = w :: rest) :
    execDispPop s =
      .next (if s.lastValid = true ∧ w = s.lastSeen then ({ s with q := rest } : State).dropDuplicate w
        else ({ s with q := rest } : State).forward w) := by
  simp only [execDispPop, qPop_cons h, State.isDuplicate, Bool.and_eq_true, decide_eq_true_eq]
  split <;> rfl

/-- The Dispatch part of a tick never stops. -/
theorem runCode_disp (s : State) : runCode (.disp s.dispWord) s.beginTick = .next s.beginTick.dispatched := by
  have hp : s.beginTick.pins = s.pins := rfl
  rcases hpoll : s.pins.poll <;> rcases hq : s.beginTick.q with _ | ⟨w, rest⟩ <;>
    have hq' := hq <;> rw [beginTick_q] at hq' <;>
    simp only [runCode, State.dispWord, decode_disp, State.qAvail, State.dispatched, hp, hpoll, hq, hq',
      List.isEmpty_nil, List.isEmpty_cons, Bool.not_true, Bool.not_false, if_true, Bool.false_eq_true, if_false]
  · simp only [exec, execDispIdle, hq]
  · simp only [exec, execDispIdle, hq]
  · simp only [exec, execDispPollEmpty, hq]
  · exact execDispPop_cons hq

/-- The Assembler part of a tick never stops. -/
theorem assemble_eq (s : State) : assemble s = .next s.assembled := by
  unfold assemble State.assembled
  rcases s.tap with _ | ⟨c, src⟩
  · rfl
  · cases c <;> simp [runCode, decode_cell, exec, execPushZero, execPushOne, execPushReset]

/-- A reset tick (R111 step 1, R119). -/
theorem step_reset {s : State} (h : s.pins.rst = true) : step s = .next s.beginTick.resetRegs.endTick := by
  simp only [step, tick, h, if_true, runCode, State.rstWord, decode_rst_one, exec, execRst, andThen_next]

/-- Any other tick (R111 steps 2 to 5). -/
theorem step_run {s : State} (h : s.pins.rst = false) :
    step s = andThen (exec s.samplerInstr s.beginTick.dispatched) fun b => .next b.assembled.endTick := by
  simp [step, tick, h, runCode_disp, runCode_seq, assemble_eq]

/-- Inversion of a step. -/
theorem step_cases {s t : State} (h : step s = .next t) :
    (s.pins.rst = true ∧ t = s.beginTick.resetRegs.endTick) ∨
    (s.pins.rst = false ∧ ∃ b, exec s.samplerInstr s.beginTick.dispatched = .next b ∧ t = b.assembled.endTick) := by
  rcases hr : s.pins.rst
  · rw [step_run hr, andThen_eq_next] at h
    obtain ⟨b, hb, ht⟩ := h
    exact .inr ⟨rfl, b, hb, by simpa using ht.symm⟩
  · rw [step_reset hr] at h
    exact .inl ⟨rfl, by simpa using h.symm⟩

/-! ### What the Dispatch part leaves alone -/

/-- The Dispatch part writes the queue, its own registers, the Validator's wires and the events, and nothing else
(R12). -/
theorem dispatched_writes (s : State) :
    ∃ q lastSeen lastValid outValid outWord outThrottle outTlm outCrcRx outCrcExp outCrcOk frame events,
      s.dispatched = { s with
        q, lastSeen, lastValid, outValid, outWord, outThrottle, outTlm, outCrcRx, outCrcExp, outCrcOk, frame, events } := by
  unfold State.dispatched; repeat' split
  all_goals exact ⟨_, _, _, _, _, _, _, _, _, _, _, _, rfl⟩


@[simp] theorem dispatched_cfg (s : State) : s.dispatched.cfg = s.cfg := by
  obtain ⟨_, _, _, _, _, _, _, _, _, _, _, _, h⟩ := dispatched_writes s; rw [h]
@[simp] theorem dispatched_st (s : State) : s.dispatched.st = s.st := by
  obtain ⟨_, _, _, _, _, _, _, _, _, _, _, _, h⟩ := dispatched_writes s; rw [h]
@[simp] theorem dispatched_cph (s : State) : s.dispatched.cph = s.cph := by
  obtain ⟨_, _, _, _, _, _, _, _, _, _, _, _, h⟩ := dispatched_writes s; rw [h]
@[simp] theorem dispatched_guard (s : State) : s.dispatched.guard.toNat = s.guard.toNat := by
  obtain ⟨_, _, _, _, _, _, _, _, _, _, _, _, h⟩ := dispatched_writes s; rw [h]
@[simp] theorem dispatched_dly (s : State) : s.dispatched.dly.toNat = s.dly.toNat := by
  obtain ⟨_, _, _, _, _, _, _, _, _, _, _, _, h⟩ := dispatched_writes s; rw [h]
@[simp] theorem dispatched_win (s : State) : s.dispatched.win.toNat = s.win.toNat := by
  obtain ⟨_, _, _, _, _, _, _, _, _, _, _, _, h⟩ := dispatched_writes s; rw [h]
@[simp] theorem dispatched_sr (s : State) : s.dispatched.sr = s.sr := by
  obtain ⟨_, _, _, _, _, _, _, _, _, _, _, _, h⟩ := dispatched_writes s; rw [h]
@[simp] theorem dispatched_cnt (s : State) : s.dispatched.cnt = s.cnt := by
  obtain ⟨_, _, _, _, _, _, _, _, _, _, _, _, h⟩ := dispatched_writes s; rw [h]
@[simp] theorem dispatched_qOvf (s : State) : s.dispatched.qOvf = s.qOvf := by
  obtain ⟨_, _, _, _, _, _, _, _, _, _, _, _, h⟩ := dispatched_writes s; rw [h]
@[simp] theorem dispatched_stim (s : State) : s.dispatched.stim = s.stim := by
  obtain ⟨_, _, _, _, _, _, _, _, _, _, _, _, h⟩ := dispatched_writes s; rw [h]
@[simp] theorem dispatched_now (s : State) : s.dispatched.now = s.now := by
  obtain ⟨_, _, _, _, _, _, _, _, _, _, _, _, h⟩ := dispatched_writes s; rw [h]
@[simp] theorem dispatched_tap (s : State) : s.dispatched.tap = s.tap := by
  obtain ⟨_, _, _, _, _, _, _, _, _, _, _, _, h⟩ := dispatched_writes s; rw [h]

/-! ### What a data push and the Assembler part leave alone -/

/-- A data push writes `sr`, `cnt`, the queue, `q_ovf` and the events, and nothing else (R12). -/
theorem pushBit_writes (s : State) (b : Bool) :
    ∃ sr cnt q qOvf events, s.pushBit b = { s with sr, cnt, q, qOvf, events } := by
  rcases pushBit_cases s b with ⟨_, h⟩ | ⟨_, _, h⟩ | ⟨_, _, _, _, _, h⟩ <;> exact ⟨_, _, _, _, _, h⟩

/-- The Assembler part writes no more than a data push does (R12). -/
theorem assembled_writes (s : State) :
    ∃ sr cnt q qOvf events, s.assembled = { s with sr, cnt, q, qOvf, events } := by
  unfold State.assembled; split
  · exact ⟨_, _, _, _, _, rfl⟩
  · exact pushBit_writes s false
  · exact pushBit_writes s true
  · exact ⟨_, _, _, _, _, rfl⟩

@[simp] theorem pushBit_cfg (s : State) (b : Bool) : (s.pushBit b).cfg = s.cfg := by
  obtain ⟨_, _, _, _, _, h⟩ := pushBit_writes s b; rw [h]
@[simp] theorem pushBit_st (s : State) (b : Bool) : (s.pushBit b).st = s.st := by
  obtain ⟨_, _, _, _, _, h⟩ := pushBit_writes s b; rw [h]
@[simp] theorem pushBit_cph (s : State) (b : Bool) : (s.pushBit b).cph = s.cph := by
  obtain ⟨_, _, _, _, _, h⟩ := pushBit_writes s b; rw [h]
@[simp] theorem pushBit_guard (s : State) (b : Bool) : (s.pushBit b).guard.toNat = s.guard.toNat := by
  obtain ⟨_, _, _, _, _, h⟩ := pushBit_writes s b; rw [h]
@[simp] theorem pushBit_dly (s : State) (b : Bool) : (s.pushBit b).dly.toNat = s.dly.toNat := by
  obtain ⟨_, _, _, _, _, h⟩ := pushBit_writes s b; rw [h]
@[simp] theorem pushBit_win (s : State) (b : Bool) : (s.pushBit b).win.toNat = s.win.toNat := by
  obtain ⟨_, _, _, _, _, h⟩ := pushBit_writes s b; rw [h]
@[simp] theorem pushBit_lastSeen (s : State) (b : Bool) : (s.pushBit b).lastSeen = s.lastSeen := by
  obtain ⟨_, _, _, _, _, h⟩ := pushBit_writes s b; rw [h]
@[simp] theorem pushBit_lastValid (s : State) (b : Bool) : (s.pushBit b).lastValid = s.lastValid := by
  obtain ⟨_, _, _, _, _, h⟩ := pushBit_writes s b; rw [h]
@[simp] theorem pushBit_outValid (s : State) (b : Bool) : (s.pushBit b).outValid = s.outValid := by
  obtain ⟨_, _, _, _, _, h⟩ := pushBit_writes s b; rw [h]
@[simp] theorem pushBit_outWord (s : State) (b : Bool) : (s.pushBit b).outWord = s.outWord := by
  obtain ⟨_, _, _, _, _, h⟩ := pushBit_writes s b; rw [h]
@[simp] theorem pushBit_outThrottle (s : State) (b : Bool) : (s.pushBit b).outThrottle = s.outThrottle := by
  obtain ⟨_, _, _, _, _, h⟩ := pushBit_writes s b; rw [h]
@[simp] theorem pushBit_outTlm (s : State) (b : Bool) : (s.pushBit b).outTlm = s.outTlm := by
  obtain ⟨_, _, _, _, _, h⟩ := pushBit_writes s b; rw [h]
@[simp] theorem pushBit_outCrcRx (s : State) (b : Bool) : (s.pushBit b).outCrcRx = s.outCrcRx := by
  obtain ⟨_, _, _, _, _, h⟩ := pushBit_writes s b; rw [h]
@[simp] theorem pushBit_outCrcExp (s : State) (b : Bool) : (s.pushBit b).outCrcExp = s.outCrcExp := by
  obtain ⟨_, _, _, _, _, h⟩ := pushBit_writes s b; rw [h]
@[simp] theorem pushBit_outCrcOk (s : State) (b : Bool) : (s.pushBit b).outCrcOk = s.outCrcOk := by
  obtain ⟨_, _, _, _, _, h⟩ := pushBit_writes s b; rw [h]
@[simp] theorem pushBit_stim (s : State) (b : Bool) : (s.pushBit b).stim = s.stim := by
  obtain ⟨_, _, _, _, _, h⟩ := pushBit_writes s b; rw [h]
@[simp] theorem pushBit_now (s : State) (b : Bool) : (s.pushBit b).now = s.now := by
  obtain ⟨_, _, _, _, _, h⟩ := pushBit_writes s b; rw [h]
@[simp] theorem pushBit_tap (s : State) (b : Bool) : (s.pushBit b).tap = s.tap := by
  obtain ⟨_, _, _, _, _, h⟩ := pushBit_writes s b; rw [h]
@[simp] theorem pushBit_frame (s : State) (b : Bool) : (s.pushBit b).frame = s.frame := by
  obtain ⟨_, _, _, _, _, h⟩ := pushBit_writes s b; rw [h]
@[simp] theorem assembled_cfg (s : State) : s.assembled.cfg = s.cfg := by
  obtain ⟨_, _, _, _, _, h⟩ := assembled_writes s; rw [h]
@[simp] theorem assembled_st (s : State) : s.assembled.st = s.st := by
  obtain ⟨_, _, _, _, _, h⟩ := assembled_writes s; rw [h]
@[simp] theorem assembled_cph (s : State) : s.assembled.cph = s.cph := by
  obtain ⟨_, _, _, _, _, h⟩ := assembled_writes s; rw [h]
@[simp] theorem assembled_guard (s : State) : s.assembled.guard.toNat = s.guard.toNat := by
  obtain ⟨_, _, _, _, _, h⟩ := assembled_writes s; rw [h]
@[simp] theorem assembled_dly (s : State) : s.assembled.dly.toNat = s.dly.toNat := by
  obtain ⟨_, _, _, _, _, h⟩ := assembled_writes s; rw [h]
@[simp] theorem assembled_win (s : State) : s.assembled.win.toNat = s.win.toNat := by
  obtain ⟨_, _, _, _, _, h⟩ := assembled_writes s; rw [h]
@[simp] theorem assembled_lastSeen (s : State) : s.assembled.lastSeen = s.lastSeen := by
  obtain ⟨_, _, _, _, _, h⟩ := assembled_writes s; rw [h]
@[simp] theorem assembled_lastValid (s : State) : s.assembled.lastValid = s.lastValid := by
  obtain ⟨_, _, _, _, _, h⟩ := assembled_writes s; rw [h]
@[simp] theorem assembled_outValid (s : State) : s.assembled.outValid = s.outValid := by
  obtain ⟨_, _, _, _, _, h⟩ := assembled_writes s; rw [h]
@[simp] theorem assembled_outWord (s : State) : s.assembled.outWord = s.outWord := by
  obtain ⟨_, _, _, _, _, h⟩ := assembled_writes s; rw [h]
@[simp] theorem assembled_outThrottle (s : State) : s.assembled.outThrottle = s.outThrottle := by
  obtain ⟨_, _, _, _, _, h⟩ := assembled_writes s; rw [h]
@[simp] theorem assembled_outTlm (s : State) : s.assembled.outTlm = s.outTlm := by
  obtain ⟨_, _, _, _, _, h⟩ := assembled_writes s; rw [h]
@[simp] theorem assembled_outCrcRx (s : State) : s.assembled.outCrcRx = s.outCrcRx := by
  obtain ⟨_, _, _, _, _, h⟩ := assembled_writes s; rw [h]
@[simp] theorem assembled_outCrcExp (s : State) : s.assembled.outCrcExp = s.outCrcExp := by
  obtain ⟨_, _, _, _, _, h⟩ := assembled_writes s; rw [h]
@[simp] theorem assembled_outCrcOk (s : State) : s.assembled.outCrcOk = s.outCrcOk := by
  obtain ⟨_, _, _, _, _, h⟩ := assembled_writes s; rw [h]
@[simp] theorem assembled_stim (s : State) : s.assembled.stim = s.stim := by
  obtain ⟨_, _, _, _, _, h⟩ := assembled_writes s; rw [h]
@[simp] theorem assembled_now (s : State) : s.assembled.now = s.now := by
  obtain ⟨_, _, _, _, _, h⟩ := assembled_writes s; rw [h]
@[simp] theorem assembled_tap (s : State) : s.assembled.tap = s.tap := by
  obtain ⟨_, _, _, _, _, h⟩ := assembled_writes s; rw [h]
@[simp] theorem assembled_frame (s : State) : s.assembled.frame = s.frame := by
  obtain ⟨_, _, _, _, _, h⟩ := assembled_writes s; rw [h]

/-! ### Everything the Sampler part can do -/

/-- The Sampler operation of the position of `s`, run on a state at the same position (R62 to R66, R72 to R75). -/
theorem sampler_cases {s a b : State} (h : exec s.samplerInstr a = .next b) :
    (s.st = .huntReset ∧ a.line = true ∧ b = a) ∨
    (s.st = .huntReset ∧ a.line = false ∧ b = { a with guard := a.cfg.guard, st := .waitRise }) ∨
    (s.st = .waitRise ∧ a.line = true ∧ b = { a with st := .waitFall }) ∨
    (s.st = .waitRise ∧ a.line = false ∧ a.guard = 0#_ ∧ b = ({ a with st := .huntReset } : State).emit .reset .host) ∨
    (s.st = .waitRise ∧ a.line = false ∧ a.guard ≠ 0#_ ∧ b = { a with guard := a.guard - 1#_ }) ∨
    (s.st = .waitFall ∧ a.line = true ∧ b = a) ∨
    (s.st = .waitFall ∧ a.line = false ∧ b = { a with dly := a.cfg.delay, st := .sample }) ∨
    (s.st = .sample ∧ a.dly ≠ 0#_ ∧ b = { a with dly := a.dly - 1#_ }) ∨
    (s.st = .sample ∧ a.dly = 0#_ ∧ b = a.afterSample.emit (dataCell a.line) .host) ∨
    (s.st = .captureResponse ∧ s.cph = .capWaitLow ∧ a.cfg.variant = .bidir ∧ a.line = false ∧ b = { a with cph := .capWaitHigh }) ∨
    (s.st = .captureResponse ∧ s.cph = .capWaitHigh ∧ a.cfg.variant = .bidir ∧ a.line = true ∧ b = { a with dly := a.cfg.delayResp, cph := .capDelay }) ∨
    (s.st = .captureResponse ∧ s.cph ≠ .capDelay ∧ a.cfg.variant = .bidir ∧ a.win = 0#_ ∧ b = a.expire) ∨
    (s.st = .captureResponse ∧ s.cph ≠ .capDelay ∧ a.cfg.variant = .bidir ∧ a.win ≠ 0#_ ∧ b = { a with win := a.win - 1#_ }) ∨
    (s.st = .captureResponse ∧ s.cph = .capDelay ∧ a.cfg.variant = .bidir ∧ a.dly ≠ 0#_ ∧ b = { a with dly := a.dly - 1#_ }) ∨
    (s.st = .captureResponse ∧ s.cph = .capDelay ∧ a.cfg.variant = .bidir ∧ a.dly = 0#_ ∧
      b = ({ a with win := 0#_, cph := .capWaitLow, st := .huntReset } : State).emit (dataCell a.line) .resp) := by
  unfold State.samplerInstr at h
  rcases hst : s.st <;> simp only [hst] at h
  · simp only [exec, execHuntReset] at h; split at h <;> simp_all
  · simp only [exec, execWaitRise] at h; (repeat' split at h) <;> simp_all
  · simp only [exec, execWaitFall] at h; (repeat' split at h) <;> simp_all
  · simp only [exec, execSample] at h; (repeat' split at h) <;> simp_all
  · rcases hc : s.cph <;> simp only [hc] at h
    · simp only [exec, execCapWaitLow, State.windowTick] at h; (repeat' split at h) <;> simp_all
    · simp only [exec, execCapWaitHigh, State.windowTick] at h; (repeat' split at h) <;> simp_all
    · simp only [exec, execCapDelay] at h; (repeat' split at h) <;> simp_all

/-! ### Events and the queue, part by part -/

/-- The Dispatch part takes the head of the queue exactly when it is polled (R36, R38). -/
theorem dispatched_q (s : State) : s.dispatched.q = if s.pins.poll then s.q.tail else s.q := by
  unfold State.dispatched; split
  · split <;> simp_all; split <;> simp
  · rfl

/-- The Dispatch part at the beginning of a tick: nothing accepted and the strobe low, or the head forwarded (R97 to
R99). -/
theorem dispatched_cases (s : State) :
    (s.beginTick.dispatched.outValid = false ∧
      (s.beginTick.dispatched.events = [] ∨
        ∃ w, s.beginTick.dispatched.events = [.dupDropped w] ∧ s.q.head? = some w ∧ s.pins.poll = true) ∧
      s.beginTick.dispatched.lastSeen = s.lastSeen ∧ s.beginTick.dispatched.lastValid = s.lastValid) ∨
    (∃ w, s.q.head? = some w ∧ s.pins.poll = true ∧ s.beginTick.dispatched.outValid = true ∧
      s.beginTick.dispatched.lastSeen = w ∧ s.beginTick.dispatched.lastValid = true ∧
      s.beginTick.dispatched.events = [.forward w (decodeFrame w)]) := by
  have hp : s.beginTick.pins = s.pins := rfl
  unfold State.dispatched; rw [hp]; split
  · rcases hq : s.q with _ | ⟨w, rest⟩ <;> simp only [beginTick_q, hq]
    · simp
    · split
      · left; refine ⟨rfl, ?_⟩; simp_all
      · right; exact ⟨w, rfl, by simp_all⟩
  · simp

/-- The Assembler part does nothing, pushes a data cell, or discards (R78). -/
theorem assembled_cases (s : State) :
    (s.tap = none ∧ s.assembled = s) ∨
    (∃ b src, s.tap = some ⟨dataCell b, src⟩ ∧ s.assembled = s.pushBit b) ∨
    (∃ src, s.tap = some ⟨.reset, src⟩ ∧ s.assembled = s.discardWord) := by
  unfold State.assembled
  rcases h : s.tap with _ | ⟨c, src⟩
  · simp
  · cases c
    · exact .inr (.inl ⟨false, src, rfl, rfl⟩)
    · exact .inr (.inl ⟨true, src, rfl, rfl⟩)
    · exact .inr (.inr ⟨src, rfl, rfl⟩)

/-- What the Sampler part leaves alone, and the cell and events it adds (R67, R103). -/
theorem sampler_frame {s a b : State} (h : exec s.samplerInstr a = .next b) (ht : a.tap = none) :
    b.q = a.q ∧ b.cfg = a.cfg ∧ b.qOvf = a.qOvf ∧ b.sr = a.sr ∧ b.cnt = a.cnt ∧ b.lastSeen = a.lastSeen ∧
    b.lastValid = a.lastValid ∧ b.outValid = a.outValid ∧ b.stim = a.stim ∧ b.now = a.now ∧
    ((b.tap = none ∧ b.events = a.events) ∨
      (∃ v src, b.tap = some ⟨dataCell v, src⟩ ∧ b.events = a.events ++ [.cell (dataCell v) src]) ∨
      (b.tap = some ⟨.reset, .host⟩ ∧ b.events = a.events ++ [.cell .reset .host]) ∨
      (b.tap = some ⟨.reset, .host⟩ ∧ b.events = a.events ++ [.cell .reset .host, .windowExpired])) := by
  rcases sampler_cases h with ⟨h1, h2, rfl⟩ | ⟨h1, h2, rfl⟩ | ⟨h1, h2, rfl⟩ | ⟨h1, h2, h3, rfl⟩ | ⟨h1, h2, h3, rfl⟩ |
    ⟨h1, h2, rfl⟩ | ⟨h1, h2, rfl⟩ | ⟨h1, h2, rfl⟩ | ⟨h1, h2, rfl⟩ | ⟨h1, h2, h3, h4, rfl⟩ | ⟨h1, h2, h3, h4, rfl⟩ |
    ⟨h1, h2, h3, h4, rfl⟩ | ⟨h1, h2, h3, h4, rfl⟩ | ⟨h1, h2, h3, h4, rfl⟩ | ⟨h1, h2, h3, h4, rfl⟩
  all_goals refine ⟨by simp, by simp, by simp, by simp, by simp, by simp, by simp, by simp, by simp, by simp, ?_⟩
  all_goals first
    | exact .inl ⟨ht, rfl⟩
    | exact .inr (.inl ⟨_, _, rfl, rfl⟩)
    | exact .inr (.inr (.inl ⟨rfl, rfl⟩))
    | exact .inr (.inr (.inr ⟨rfl, by simp⟩))

/-- The Assembler part and the queue: untouched, grown by the completed word, or full and moved on (R35, R83). -/
theorem assembled_queue (b : State) :
    (b.assembled.q = b.q ∧ b.assembled.qOvf = b.qOvf ∧ b.assembled.events = b.events) ∨
    (∃ v src, b.tap = some ⟨dataCell v, src⟩ ∧ b.cnt = 15#4 ∧ b.assembled.cnt = 0#4 ∧
      (b.q.length < b.cfg.qdepth ∨ b.q = []) ∧ b.assembled.q = b.q ++ [shiftIn b.sr v] ∧
      b.assembled.qOvf = false ∧ b.assembled.events = b.events ++ [.enqueue (shiftIn b.sr v)]) ∨
    (∃ v src x rest, b.tap = some ⟨dataCell v, src⟩ ∧ b.cnt = 15#4 ∧ b.assembled.cnt = 0#4 ∧ b.q = x :: rest ∧
      b.cfg.qdepth ≤ b.q.length ∧ b.assembled.q = rest ++ [shiftIn b.sr v] ∧ b.assembled.qOvf = true ∧
      b.assembled.events = b.events ++ [.enqueue (shiftIn b.sr v), .overflow x]) := by
  rcases assembled_cases b with ⟨_, e⟩ | ⟨v, src, ht, e⟩ | ⟨_, _, e⟩ <;> rw [e]
  · simp
  · rcases pushBit_cases b v with ⟨_, e⟩ | ⟨h1, h2, e⟩ | ⟨x, r, h1, hq, h3, e⟩ <;> rw [e]
    · simp
    · exact .inr (.inl ⟨v, src, ht, h1, rfl, h2, rfl, rfl, rfl⟩)
    · exact .inr (.inr ⟨v, src, x, r, ht, h1, rfl, hq, h3, rfl, rfl, by simp⟩)
  · simp

end Sys2Proof.Machine
end

