-- ==== Sys2Proof/Tests/Slice0.lean ====
section
/-! SUPPORT. Tests against the spec's own words: its encodings, the worked examples of its rules, the vectors of
`95_test_vectors.md`; the well-formedness smoke test; and a witness for the hypotheses of every obligation. -/

namespace Sys2Proof.Tests

open Sys2Proof.Machine

/-! ### Helpers -/

/-- The parameters of the spec's examples (`95_test_vectors.md`): `GUARD = 3`, `DELAY = 1`, `QDEPTH = 2`. -/
def uniCfg : Config := { variant := .uni, cw := 3, guard := 3, delay := 1, window := 0, delayResp := 0, qdepth := 2 }

/-- The same with `WINDOW = 6`, `DELAY_RESP = 3`. -/
def bidirCfg : Config := { uniCfg with variant := .bidir, window := 6, delayResp := 3 }

/-- A state of a build with a listed stimulus, everything else at reset. -/
def start (c : Config) (pins : List Pins) : State := { State.resetOf c with stim := pins }

/-- A tick's pins without reset. -/
def pin (line poll : Bool) : Pins := { rst := false, line := line, poll := poll }

def isNext (o : Out) : Bool :=
  match o with
  | .next _ => true
  | .fault _ => false
  | .refused _ => false

/-- The next state, or the given one if there is none. -/
def after (o : Out) (d : State) : State :=
  match o with
  | .next s => s
  | .fault _ => d
  | .refused _ => d

theorem eq_next_of_isNext {o : Out} (d : State) (h : isNext o = true) : o = .next (after o d) := by
  cases o <;> simp_all [isNext, after]

/-! ### Decoding: every constructor from a word written out from the spec's tables (R48 to R52) -/

theorem test_decode_seq :
    decode (.seq 0b00000#5) = .ok .huntReset ∧ decode (.seq 0b00100#5) = .ok .waitRise ∧
    decode (.seq 0b01000#5) = .ok .waitFall ∧ decode (.seq 0b01100#5) = .ok .sample ∧
    decode (.seq 0b10000#5) = .ok .capWaitLow ∧ decode (.seq 0b10001#5) = .ok .capWaitHigh ∧
    decode (.seq 0b10010#5) = .ok .capDelay := by decide

theorem test_decode_seq_unreachable :
    decode (.seq 0b10011#5) = .reject .unreachablePosition ∧ decode (.seq 0b10100#5) = .reject .unreachablePosition ∧
    decode (.seq 0b11111#5) = .reject .unreachablePosition := by decide

theorem test_decode_cell :
    decode (.cell 0b00#2) = .ok .pushZero ∧ decode (.cell 0b01#2) = .ok .pushOne ∧
    decode (.cell 0b10#2) = .ok .pushReset ∧ decode (.cell 0b11#2) = .ok .pushReset := by decide

theorem test_decode_frame : decode (.frame 0b0000000101100101#16) = .ok (.decode 0x0165#16) := by decide

theorem test_decode_disp :
    decode (.disp 0b00#2) = .ok .dispIdle ∧ decode (.disp 0b01#2) = .ok .dispIdle ∧
    decode (.disp 0b10#2) = .ok .dispPollEmpty ∧ decode (.disp 0b11#2) = .ok .dispPop := by decide

theorem test_decode_rst : decode (.rst 1#1) = .ok .rst ∧ decode (.rst 0#1) = .reject .nothingSelected := by decide

/-- The table words of the host's byte form that are read in the format of their row (log entry 9). -/
theorem test_table_words :
    [0, 4, 8, 12, 16, 17, 18, 1, 2, 3].map (decodeTableWord 8) =
      [some .huntReset, some .waitRise, some .waitFall, some .sample, some .capWaitLow, some .capWaitHigh,
        some .capDelay, some .rst, some .dispPollEmpty, some .dispPop] ∧
    decodeTableWord 16 0x0165 = some (.decode 0x0165#16) ∧ decodeTableWord 8 32 = none := by decide

/-- A step from reset runs each placed table word. -/
theorem test_placed_words_run :
    ([0, 1, 2, 3, 4, 8, 12, 16, 17, 18].all fun w => isNext (step (State.reset.withFetchWord 8 w))) = true ∧
    isNext (step (State.reset.withFetchWord 16 0x0165)) = true := by decide

/-! ### Well-formedness smoke test: each capture operation is ill-formed in a `uni` build (R55, R77) -/

theorem test_wellFormed_refuses :
    WellFormed .uni .capWaitLow = false ∧ WellFormed .uni .capWaitHigh = false ∧ WellFormed .uni .capDelay = false := by
  decide

theorem test_wellFormed_accepts : WellFormed .bidir .capDelay = true ∧ WellFormed .uni .sample = true := by decide

/-! ### One step or one operation: the worked examples of the rules -/

/-- R62: `line = 0` gives WAIT_RISE with `guard = 3`. -/
theorem test_huntReset_low :
    let t := after (step (start uniCfg [pin false false])) State.reset
    t.st = .waitRise ∧ t.guard = 3 := by decide

/-- R62: `line = 1` changes nothing. -/
theorem test_huntReset_high :
    let t := after (step { start uniCfg [pin true false] with cnt := 5#4 }) State.reset
    t.st = .huntReset ∧ t.cnt = 5#4 ∧ t.tap = none := by decide

/-- R63: `guard = 0`, `line = 0` emits RESET. -/
theorem test_waitRise_expiry :
    let t := after (step { start uniCfg [pin false false] with st := .waitRise, sr := 0x16#16, cnt := 5#4 }) State.reset
    t.st = .huntReset ∧ t.tap = some ⟨.reset, .host⟩ ∧ t.sr = 0#16 ∧ t.cnt = 0#4 := by decide

/-- R63: `guard = 0`, `line = 1` is a rise, not an expiry; `guard = 2`, `line = 0` gives `guard = 1`. -/
theorem test_waitRise_rise_beats_expiry :
    (after (step { start uniCfg [pin true false] with st := .waitRise }) State.reset).st = .waitFall ∧
    (after (step { start uniCfg [pin false false] with st := .waitRise, guard := 2 }) State.reset).guard = 1 := by
  decide

/-- R7, R19: `GUARD = 2^CW - 1`, the largest start value of a 3-bit countdown, is loaded whole and counted down by 1. -/
theorem test_guard_full_width :
    let s := start { uniCfg with guard := 7#3 } [pin false false, pin false false]
    let t := after (step s) State.reset
    t.guard.toNat = 7 ∧ (after (step t) State.reset).guard.toNat = 6 := by decide

/-- R64: `line = 0` gives SAMPLE with `dly = 1`. -/
theorem test_waitFall_fall :
    let t := after (step { start uniCfg [pin false false] with st := .waitFall }) State.reset
    t.st = .sample ∧ t.dly = 1 := by decide

/-- R65: `dly = 0`, `line = 1`, `cnt = 3` in a `uni` build. -/
theorem test_sample_one :
    let t := after (step { start uniCfg [pin true false] with st := .sample, cnt := 3#4 }) State.reset
    t.tap = some ⟨.one, .host⟩ ∧ t.st = .huntReset ∧ t.cnt = 4#4 := by decide

/-- R71: the sixteenth sample of a `bidir` build opens the window and enqueues (`sr = 0x416C` and a ZERO, R80). -/
theorem test_sample_opens_window :
    let t := after (step { start bidirCfg [pin false false] with st := .sample, cnt := 15#4, sr := 0x416C#16 }) State.reset
    t.st = .captureResponse ∧ t.cph = .capWaitLow ∧ t.win = 6 ∧ t.q = [0x82D8#16] ∧ t.cnt = 0#4 := by decide

/-- R72: `win = 6`, `line = 1` gives `win = 5`; `line = 0` advances with `win` unchanged. -/
theorem test_capWaitLow :
    let s := { start bidirCfg [pin true false] with st := .captureResponse, win := 6 }
    let t := after (step s) State.reset
    let u := after (step { s with stim := [pin false false] }) State.reset
    t.win = 5 ∧ t.cph = .capWaitLow ∧ u.win = 6 ∧ u.cph = .capWaitHigh := by decide

/-- R75: `win = 0`, `line = 1` expires. -/
theorem test_capWaitLow_expiry :
    let t := after (step { start bidirCfg [pin true false] with st := .captureResponse }) State.reset
    t.st = .huntReset ∧ t.tap = some ⟨.reset, .host⟩ ∧ t.events = [.cell .reset .host, .windowExpired] := by decide

/-- R73: `win = 4`, `line = 1` gives CAP_DELAY with `dly = 3`. -/
theorem test_capWaitHigh :
    let t := after (step { start bidirCfg [pin true false] with st := .captureResponse, cph := .capWaitHigh, win := 4 })
      State.reset
    t.cph = .capDelay ∧ t.dly = 3 ∧ t.win = 4 := by decide

/-- R74: `dly = 0`, `line = 1` gives a response ONE, `cnt = 1`, `sr = 0x0001`. -/
theorem test_capDelay :
    let t := after (step { start bidirCfg [pin true false] with st := .captureResponse, cph := .capDelay, win := 4 })
      State.reset
    t.tap = some ⟨.one, .resp⟩ ∧ t.st = .huntReset ∧ t.cph = .capWaitLow ∧ t.win = 0 ∧ t.cnt = 1#4 ∧ t.sr = 1#16 := by
  decide

/-- R80: `sr = 0x0005`, `cnt = 3`. -/
theorem test_pushZero :
    let t := after (exec .pushZero { start uniCfg [] with sr := 0x0005#16, cnt := 3#4 }) State.reset
    t.sr = 0x000A#16 ∧ t.cnt = 4#4 ∧ t.q = [] := by decide

/-- R81: `sr = 0x8000`, `cnt = 7`: the old bit 15 is lost. -/
theorem test_pushOne_loses_top_bit :
    let t := after (exec .pushOne { start uniCfg [] with sr := 0x8000#16, cnt := 7#4 }) State.reset
    t.sr = 0x0001#16 ∧ t.cnt = 8#4 := by decide

/-- R35: `QDEPTH = 2`, `q = [0x0609, 0x82D8]`, `QPush(0xFFE1)`. -/
theorem test_pushOne_overflow :
    let t := after (exec .pushOne
      { start uniCfg [] with sr := 0x7FF0#16, cnt := 15#4, q := [0x0609#16, 0x82D8#16] }) State.reset
    t.q = [0x82D8#16, 0xFFE1#16] ∧ t.qOvf = true ∧ t.events = [.enqueue 0xFFE1#16, .overflow 0x0609#16] ∧ t.cnt = 0#4 := by
  decide

/-- R82: `sr = 0x416C`, `cnt = 15`: a 15-bit partial word is never queued. -/
theorem test_pushReset :
    let t := after (exec .pushReset { start uniCfg [] with sr := 0x416C#16, cnt := 15#4 }) State.reset
    t.sr = 0#16 ∧ t.cnt = 0#4 ∧ t.q = [] := by decide

/-- S1 and the vectors of section 2. -/
theorem test_decode_fields :
    decodeFrame 0x0165#16 = ⟨11#11, false, 5#4, 8#4, false⟩ ∧ decodeFrame 0x0168#16 = ⟨11#11, false, 8#4, 8#4, true⟩ ∧
    decodeFrame 0#16 = ⟨0#11, false, 0#4, 15#4, false⟩ ∧ decodeFrame 0xB7FF#16 = ⟨1471#11, true, 15#4, 12#4, false⟩ ∧
    decodeFrame 0x1234#16 = ⟨145#11, true, 4#4, 15#4, false⟩ ∧ decodeFrame 0x8007#16 = ⟨1024#11, false, 7#4, 7#4, true⟩ := by
  decide

/-- R94 and the vectors of section 2. -/
theorem test_encodeFrame :
    encodeFrame 1046#11 true = 0x82D8#16 ∧ encodeFrame 1365#11 true = 0xAAB4#16 ∧ encodeFrame 2047#11 false = 0xFFE1#16 ∧
    encodeFrame 0#11 false = 0x000F#16 := by decide

/-- R97: an idle tick leaves the queue. -/
theorem test_dispIdle :
    let t := after (step { start uniCfg [pin true false] with q := [0x82D8#16], outValid := true }) State.reset
    t.q = [0x82D8#16] ∧ t.outValid = false := by decide

/-- R98: a poll of an empty queue. -/
theorem test_dispPollEmpty :
    let t := after (step { start uniCfg [pin true true] with outValid := true, outWord := 7#16 }) State.reset
    t.outValid = false ∧ t.outWord = 7#16 ∧ t.lastValid = false := by decide

/-- R99: the worked example's first step drops the duplicate. -/
theorem test_dispPop_duplicate :
    let t := after (step { start uniCfg [pin true true] with
      q := [0x82D8#16, 0x0168#16], lastSeen := 0x82D8#16, lastValid := true }) State.reset
    t.events = [.dupDropped 0x82D8#16] ∧ t.q = [0x0168#16] ∧ t.outValid = false := by decide

/-- R99, vector E1: the first word is forwarded though it equals the reset value of `last_seen`. -/
theorem test_dispPop_first_word :
    let t := after (step { start uniCfg [pin true true] with q := [0#16] }) State.reset
    t.outValid = true ∧ t.lastValid = true ∧ t.q = [] ∧ t.outCrcExp = 15#4 ∧ t.outCrcOk = false := by decide

/-- R38, vectors Q1 and Q4: pop before push, and a pushed word is not visible to the poll of its tick. -/
theorem test_pop_before_push :
    let s := { start uniCfg [pin true true] with
      st := .sample, cnt := 15#4, sr := 0x7FF0#16, q := [0x0609#16, 0x82D8#16] }
    let t := after (step s) State.reset
    let u := after (step { s with q := [] }) State.reset
    t.q = [0x82D8#16, 0xFFE1#16] ∧ t.qOvf = false ∧ t.outWord = 0x0609#16 ∧ u.q = [0xFFE1#16] ∧ u.outValid = false := by
  decide

/-- R119: a reset tick in the middle of a capture, with the line low and a poll. -/
theorem test_rst :
    let t := after (step { start bidirCfg [⟨true, false, true⟩] with
      st := .captureResponse, cph := .capDelay, dly := 2, win := 4, q := [1#16], lastValid := true }) State.reset
    t.st = .huntReset ∧ t.cph = .capWaitLow ∧ t.dly = 0 ∧ t.win = 0 ∧ t.q = [] ∧ t.lastValid = false ∧ t.events = [] := by
  decide

/-- R58, R59: the line string of `BITO`, `BITZ` and `IDLE` with `GUARD = 3`, `DELAY = 1` (section 4.1). -/
theorem test_stimulus :
    (pinsOfProgram ([.rst 1] ++ idle uniCfg ++ bito uniCfg ++ bitz uniCfg ++ [.high 2])).map (·.line) =
      [true, false, false, false, false, false, false, true, false, false, true, false, true, false, false, false,
        true, true] := by decide

/-! ### Witnesses: for each obligation with hypotheses, a state and operands that meet them together -/

theorem witness_TickSelects :
    (start uniCfg [pin true false]).pins.poll = false ∧
    ((start uniCfg [pin true true]).pins.poll = true ∧ (start uniCfg [pin true true]).q = []) ∧
    ({ start uniCfg [pin true true] with q := [1#16] } : State).q ≠ [] ∧
    (start uniCfg []).st = .huntReset ∧ ({ start uniCfg [] with st := .waitRise } : State).st = .waitRise ∧
    ({ start uniCfg [] with st := .waitFall } : State).st = .waitFall ∧
    ({ start uniCfg [] with st := .sample } : State).st = .sample ∧
    (let s := { start bidirCfg [] with st := .captureResponse };
      s.st = .captureResponse ∧ s.cph = .capWaitLow ∧ ({ s with cph := .capWaitHigh } : State).cph = .capWaitHigh ∧
      ({ s with cph := .capDelay } : State).cph = .capDelay) := by decide

/-- The polls of R97 and R98. -/
theorem witness_IdleAndEmptyPoll :
    (start uniCfg [pin true false]).pins.poll = false ∧
    ((start uniCfg [pin true true]).pins.poll = true ∧ (start uniCfg [pin true true]).qAvail = false) := by decide

theorem witness_StepRunsDecoded_reset :
    let s := start uniCfg [⟨true, true, false⟩]
    s.pins.rst = true ∧ decode (.rst s.rstWord) = .ok .rst ∧ ∃ t, exec .rst s.beginTick = .next t :=
  ⟨by decide, by decide, _, rfl⟩

/-- Each of the three clauses without reset: no cell, a cell, and a refusing operation. -/
theorem witness_StepRunsDecoded_run :
    (let s := start uniCfg [pin true false];
      s.pins.rst = false ∧ decode (.disp s.dispWord) = .ok .dispIdle ∧ decode (.seq s.seqWord) = .ok .huntReset ∧
      (after (exec .huntReset s) s).tap = none) ∧
    (let s := { start uniCfg [pin false false] with st := .waitRise };
      s.pins.rst = false ∧ decode (.seq s.seqWord) = .ok .waitRise ∧
      (after (exec .waitRise s) s).tap = some ⟨.reset, .host⟩ ∧ decode (.cell (cellCode .reset)) = .ok .pushReset) ∧
    (let s := { start uniCfg [pin false false] with st := .captureResponse };
      decode (.seq s.seqWord) = .ok .capWaitLow ∧ isNext (exec .capWaitLow s) = false) := by decide

theorem witness_line_levels :
    (start uniCfg [pin false false]).line = false ∧ (start uniCfg [pin true false]).line = true := by decide

theorem witness_WaitRise :
    let s := { start uniCfg [pin false false] with st := .waitRise }
    s.line = false ∧ s.guard = 0 ∧ ({ s with guard := 3 } : State).guard ≠ 0 := by decide

theorem witness_Sample :
    (({ start uniCfg [pin true false] with dly := 1 } : State).dly ≠ 0) ∧
    ((start uniCfg [pin true false]).dly = 0 ∧
      ¬((start uniCfg [pin true false]).cfg.variant = .bidir ∧ (start uniCfg [pin true false]).cnt = 15#4)) ∧
    (let s := { start bidirCfg [pin true false] with cnt := 15#4 };
      s.dly = 0 ∧ s.cfg.variant = .bidir ∧ s.cnt = 15#4) ∧
    (let s := { start uniCfg [pin true false] with cnt := 15#4 };
      s.dly = 0 ∧ ¬(s.cfg.variant = .bidir ∧ s.cnt = 15#4)) := by decide

theorem witness_CapWaits :
    let s := start bidirCfg [pin true false]
    let l := start bidirCfg [pin false false]
    s.cfg.variant = .bidir ∧ (s.line = true ∧ s.win = 0) ∧ ({ s with win := 6 } : State).win ≠ 0 ∧
      (l.line = false ∧ l.win = 0) := by decide

theorem witness_CapDelay :
    let s := start bidirCfg [pin true false]
    s.cfg.variant = .bidir ∧ s.dly = 0 ∧ ({ s with dly := 3 } : State).dly ≠ 0 := by decide

theorem witness_UniBuild : (start uniCfg []).cfg.variant = .uni := by decide

/-- A state of the example build right after reset meets the invariants. -/
theorem inv_start (c : Config) (p : List Pins) (h : c.wf = true) : (start c p).Inv where
  legal := h
  phase := fun _ => rfl
  uni := fun _ => ⟨by simp [start, State.resetOf], rfl, rfl⟩
  capture := by simp [start, State.resetOf]
  depth := by simp [start, State.resetOf]
  delay := fun _ => rfl
  guardLe := Nat.zero_le _
  winLe := fun _ => Nat.zero_le _
  dlyLe := Nat.zero_le _

theorem witness_UniNeverCaptures :
    ∃ s t, State.Inv s ∧ s.cfg.variant = .uni ∧ step s = .next t :=
  ⟨start uniCfg [pin false true], _, inv_start _ _ (by decide), rfl, eq_next_of_isNext State.reset (by decide)⟩

/-- The three clauses, the second and third at the edge between a queue with one free place and a full one. -/
theorem witness_DataPush :
    ((start uniCfg []).cnt ≠ 15#4 ∧ ({ start uniCfg [] with cnt := 14#4 } : State).cnt ≠ 15#4) ∧
    (let s := { start uniCfg [] with cnt := 15#4, q := [1#16] };
      s.cnt = 15#4 ∧ s.q.length < s.cfg.qdepth) ∧
    (let s := { start uniCfg [] with cnt := 15#4, q := [1#16, 2#16] };
      s.cnt = 15#4 ∧ s.q = 1#16 :: [2#16] ∧ s.cfg.qdepth ≤ s.q.length) := by decide

/-- A tick that completes a word, in a `uni` build. -/
def completing : State :=
  { start uniCfg [pin true false, pin true true] with st := .sample, cnt := 15#4, sr := 0x7FF0#16 }

theorem inv_completing : completing.Inv where
  legal := by decide
  phase := fun _ => rfl
  uni := fun _ => ⟨by decide, rfl, rfl⟩
  capture := by decide
  depth := by decide
  delay := by decide
  guardLe := by decide
  winLe := by decide
  dlyLe := by decide

theorem witness_OnlyFullWords :
    ∃ t, step completing = .next t ∧ Event.enqueue 0xFFE1#16 ∈ t.events :=
  ⟨_, eq_next_of_isNext State.reset (by decide), by decide⟩

theorem witness_ResetCellStartsFreshWord : (List.replicate 16 true).length = 16 := by decide

theorem witness_AssemblerCuts : (start uniCfg []).cnt = 0#4 := by decide

theorem witness_QueueKeepsNewest :
    let s := { start uniCfg [] with q := [1#16, 2#16] }
    1 ≤ s.cfg.qdepth ∧ s.q.length ≤ s.cfg.qdepth := by decide

/-- Without an enqueue, with one into a free place, and with one that overflows. -/
theorem witness_TickPopsThenPushes :
    (let s := start uniCfg [pin true true];
      1 ≤ s.cfg.qdepth ∧ s.pins.rst = false ∧ isNext (step s) = true) ∧
    isNext (step completing) = true ∧
    (let s := { completing with q := [1#16, 2#16] };
      s.pins.rst = false ∧ isNext (step s) = true ∧ (after (step s) s).qOvf = true) := by decide

theorem witness_QueueIsFifo :
    completing.NoReset 1 ∧ ∃ es t, runLog 1 completing = some (es, t) :=
  ⟨fun k hk => by
    obtain rfl : k = 0 := by omega
    decide, _, _, by rw [runLog, eq_next_of_isNext (o := step completing) State.reset (by decide)]; rfl⟩

theorem witness_EncodePassing : (decodeFrame 0x0168#16).checksumOk = true ∧ checksumOk 0xFFF0#16 = true := by decide

theorem witness_BitFlips : 15 < 16 ∧ (3 : Nat) % 4 = 15 % 4 ∧ checksumOk 0x0168#16 = true := by decide

theorem witness_DispPop :
    let s := { start uniCfg [] with q := [5#16, 6#16] }
    s.q = 5#16 :: [6#16] ∧ ¬(s.lastValid = true ∧ s.lastSeen = 5#16) ∧
    ({ s with lastValid := true, lastSeen := 5#16 } : State).lastSeen = 5#16 := by decide

theorem witness_PopOfEmpty : (start uniCfg []).q = [] := by decide

theorem witness_RepeatedWord :
    let s := { start uniCfg [] with q := [5#16, 5#16] }
    s.q = 5#16 :: 5#16 :: [] ∧ ¬(s.lastValid = true ∧ s.lastSeen = 5#16) ∧
    (let r := { s with lastValid := true, lastSeen := 5#16 };
      r.lastValid = true ∧ r.lastSeen = 5#16) := by decide

/-- For the statements about any step: one without reset, and one that forwards. -/
theorem witness_step : ∃ s t, s.pins.rst = false ∧ step s = .next t :=
  ⟨completing, _, by decide, eq_next_of_isNext State.reset (by decide)⟩

/-- A step that changes the Last-Seen Word. -/
theorem witness_LastSeenChanges :
    let s := { start uniCfg [pin true true] with q := [0x0168#16] }
    s.pins.rst = false ∧ isNext (step s) = true ∧ (after (step s) s).lastSeen = 0x0168#16 := by decide

theorem witness_OutputsShowLastAccepted :
    ∃ s t, State.OutputsShowLastAccepted s ∧ s.lastValid = true ∧ step s = .next t :=
  ⟨{ start uniCfg [pin true false] with
      lastValid := true, lastSeen := 0x0168#16, outWord := 0x0168#16, outThrottle := 11#11, outCrcRx := 8#4,
      outCrcExp := 8#4, outCrcOk := true },
    _, ⟨fun _ => rfl, by decide, fun _ => rfl⟩, rfl, eq_next_of_isNext State.reset (by decide)⟩

theorem witness_WordIsForwarded :
    ∃ a, completing.Inv ∧ step completing = .next a ∧ Event.enqueue 0xFFE1#16 ∈ a.events ∧ a.q = [0xFFE1#16] ∧
      a.pins.rst = false ∧ a.pins.poll = true ∧ ¬(a.lastValid = true ∧ a.lastSeen = 0xFFE1#16) :=
  ⟨_, inv_completing, eq_next_of_isNext State.reset (by decide), by decide, by decide, by decide, by decide, by decide⟩

theorem witness_ResetTick : (start bidirCfg [⟨true, false, true⟩]).pins.rst = true := by decide

theorem witness_InvStep : ∃ s t, State.Inv s ∧ step s = .next t :=
  ⟨completing, _, inv_completing, eq_next_of_isNext State.reset (by decide)⟩

/-- One operation of each agent. -/
theorem witness_Ownership :
    (isSamplerOp .sample ∧ isNext (exec .sample completing) = true) ∧
    (isAssemblerOp .pushOne ∧ isNext (exec .pushOne completing) = true) ∧
    (isDispatchOp .dispIdle ∧ isNext (exec .dispIdle completing) = true) :=
  ⟨⟨rfl, by decide⟩, ⟨rfl, by decide⟩, ⟨rfl, by decide⟩⟩

/-- Two states that differ in the queue and the poll. -/
theorem witness_SamplerIgnores :
    ∃ s t s', SamplerAgrees s t ∧ s.pins.rst = t.pins.rst ∧ s.pins.line = t.pins.line ∧ s.q ≠ t.q ∧
      s.pins.poll ≠ t.pins.poll ∧ step s = .next s' :=
  ⟨completing, { completing with q := [5#16], stim := [pin true true] }, _, ⟨rfl, rfl, rfl, rfl, rfl, rfl, rfl, rfl⟩,
    by decide, by decide, by decide, by decide, eq_next_of_isNext State.reset (by decide)⟩

/-- Two states that differ in the Sampler's position and the line. -/
theorem witness_DispatchSees :
    ∃ s t s' t', DispatchAgrees s t ∧ s.q.head? = t.q.head? ∧ s.pins.rst = t.pins.rst ∧ s.pins.poll = t.pins.poll ∧
      s.st ≠ t.st ∧ step s = .next s' ∧ step t = .next t' :=
  ⟨completing, start bidirCfg [pin false false], _, _, ⟨rfl, rfl, rfl, rfl, rfl, rfl, rfl, rfl, rfl⟩,
    rfl, by decide, by decide, by decide, eq_next_of_isNext State.reset (by decide),
    eq_next_of_isNext State.reset (by decide)⟩

theorem witness_SixteenthSample :
    (completing.pins.rst = false ∧ completing.st = .sample ∧ completing.dly = 0 ∧ completing.cnt = 15#4 ∧
      completing.cfg.variant = .uni) ∧
    ({ completing with cfg := bidirCfg } : State).cfg.variant = .bidir := by decide

/-- The first tick after the response delay. -/
def responding : State :=
  { start bidirCfg [pin true false] with st := .captureResponse, cph := .capDelay, win := 4 }

theorem witness_ResponseBit :
    responding.Inv ∧ responding.pins.rst = false ∧ responding.st = .captureResponse ∧ responding.cph = .capDelay ∧
      responding.dly = 0 :=
  ⟨⟨by decide, by decide, by decide, by decide, by decide, by decide, by decide, by decide, by decide⟩,
    by decide, by decide, by decide, by decide⟩

/-- Pins that hold for all of a waveform: a replicated entry. -/
theorem pinsAt_replicate (c : Config) (n k : Nat) (p : Pins) (h : k < n) :
    (start c (List.replicate n p)).pinsAt k = p := by
  simp [State.pinsAt, start, h]

theorem noReset_replicate (c : Config) (n : Nat) (line poll : Bool) :
    (start c (List.replicate n (pin line poll))).NoReset n := fun k hk => by
  rw [pinsAt_replicate _ _ _ _ hk]; rfl

theorem lineIs_replicate (c : Config) (n : Nat) (line poll : Bool) :
    (start c (List.replicate n (pin line poll))).LineIs 0 n line := fun k _ hk => by
  rw [pinsAt_replicate _ _ _ _ (by omega)]; rfl

theorem witness_HighLine :
    let s := start uniCfg (List.replicate 9 (pin true false))
    (s.st = .huntReset ∨ s.st = .waitFall) ∧ s.NoReset 9 ∧ s.LineIs 0 9 true ∧ 0 < 9 :=
  ⟨.inl rfl, noReset_replicate _ _ _ _, lineIs_replicate _ _ _ _, by decide⟩

theorem witness_LongLow :
    let s := start uniCfg (List.replicate 5 (pin false false))
    s.st = .huntReset ∧ s.NoReset (s.cfg.guard.toNat + 2) ∧ s.LineIs 0 (s.cfg.guard.toNat + 2) false ∧
      0 < s.cfg.guard.toNat + 1 ∧ s.cfg.guard.toNat + 1 < s.cfg.guard.toNat + 2 :=
  ⟨rfl, noReset_replicate _ _ _ _, lineIs_replicate _ _ _ _, by decide, by decide⟩

/-- The longest low phase that still passes, `a = GUARD + 1 = 4`, and the shortest high phase (vector A3). -/
theorem witness_Pulse :
    let s := start uniCfg ([false, false, false, false, true, false, false, false].map (pin · false))
    s.st = .huntReset ∧ 1 ≤ 4 ∧ 4 ≤ s.cfg.guard.toNat + 1 ∧ s.NoReset (4 + 1 + s.cfg.delay.toNat + 2) ∧ s.LineIs 0 4 false ∧
      s.LineIs 4 1 true ∧ s.LineIs (4 + 1) 1 false := by
  refine ⟨rfl, by decide, by decide, ?_, ?_, ?_, ?_⟩
  · intro k hk
    have : k < 8 := hk
    interval_cases k <;> decide
  · intro k _ hk
    have : k < 4 := by omega
    interval_cases k <;> decide
  · intro k h hk
    obtain rfl : k = 4 := by omega
    decide
  · intro k h hk
    obtain rfl : k = 5 := by omega
    decide

theorem witness_FrameStimulus :
    let s := start uniCfg (pinsOf true (frameStim uniCfg 0x0165#16) ++ [pin true true])
    s.st = .huntReset ∧ s.cnt = 0#4 ∧ s.stim = pinsOf true (frameStim s.cfg 0x0165#16) ++ [pin true true] :=
  ⟨rfl, rfl, rfl⟩

/-- The same in a `bidir` build, with the poll mode off and nothing listed after the frame. -/
theorem witness_FrameStimulus_bidir :
    let s := start bidirCfg (pinsOf false (frameStim bidirCfg 0x82D8#16) ++ [])
    s.st = .huntReset ∧ s.cnt = 0#4 ∧ s.stim = pinsOf false (frameStim s.cfg 0x82D8#16) ++ [] ∧
      s.cfg.variant = .bidir :=
  ⟨rfl, rfl, rfl, rfl⟩

theorem witness_ResponseStimulus :
    let s := { start bidirCfg (pinsOf true (respz bidirCfg) ++ []) with st := .captureResponse }
    s.cfg.variant = .bidir ∧ s.st = .captureResponse ∧ s.cph = .capWaitLow ∧ s.cnt = 0#4 ∧
      s.stim = pinsOf true (if false then respo s.cfg else respz s.cfg) ++ [] :=
  ⟨rfl, rfl, rfl, rfl, rfl⟩

theorem witness_CaptureEnds :
    let s := { start bidirCfg (List.replicate 12 (pin true false)) with st := .captureResponse, win := 6 }
    s.cfg.variant = .bidir ∧ s.st = .captureResponse ∧ s.cph = .capWaitLow ∧ s.win = s.cfg.window ∧ s.cnt = 0#4 ∧
      s.NoReset (s.cfg.window.toNat + s.cfg.delayResp.toNat + 3) :=
  ⟨rfl, rfl, rfl, rfl, rfl, noReset_replicate bidirCfg 12 true false⟩

theorem witness_UnansweredWindow :
    let s := { start bidirCfg (List.replicate 7 (pin true false)) with st := .captureResponse, win := 6 }
    s.cfg.variant = .bidir ∧ s.st = .captureResponse ∧ s.cph = .capWaitLow ∧ s.win = s.cfg.window ∧
      s.NoReset (s.cfg.window.toNat + 1) ∧ s.LineIs 0 (s.cfg.window.toNat + 1) true :=
  ⟨rfl, rfl, rfl, rfl, noReset_replicate bidirCfg 7 true false, lineIs_replicate bidirCfg 7 true false⟩

/-- A guard that is loaded, a guard and a window that count down, and a window that a capture clears. -/
theorem witness_Countdowns :
    (let s := start uniCfg [pin false false];
      s.pins.rst = false ∧ isNext (step s) = true ∧ (after (step s) s).guard.toNat = 3) ∧
    (let s := { start uniCfg [pin false false] with st := .waitRise, guard := 1 };
      s.pins.rst = false ∧ isNext (step s) = true ∧ (after (step s) s).guard.toNat = 0) ∧
    (let s := { start bidirCfg [pin true false] with st := .captureResponse, win := 1 };
      s.pins.rst = false ∧ isNext (step s) = true ∧ (after (step s) s).win.toNat = 0) ∧
    (responding.pins.rst = false ∧ isNext (step responding) = true ∧ (after (step responding) responding).win.toNat = 0) := by
  decide

end Sys2Proof.Tests
end

section
/-! A `uni` build has no response capture (R77): each part of a tick keeps the absence of the capture, and each part
commutes with a change of `WINDOW` and `DELAY_RESP`, which it does not read. -/

namespace Sys2Proof.Machine

/-! ### The Sampler operations of both variants, one equation per branch (R62 to R65) -/

section
variable {s : State}

theorem exec_huntReset_high (hl : s.line = true) : exec .huntReset s = .next s := if_pos hl

theorem exec_huntReset_low (hl : s.line = false) :
    exec .huntReset s = .next { s with guard := s.cfg.guard, st := .waitRise } := if_neg (by simp [hl])

theorem exec_waitRise_high (hl : s.line = true) : exec .waitRise s = .next { s with st := .waitFall } := if_pos hl

theorem exec_waitRise_expired (hl : s.line = false) (hg : s.guard = 0#_) :
    exec .waitRise s = .next (({ s with st := .huntReset } : State).emit .reset .host) :=
  (if_neg (by simp [hl])).trans (if_pos hg)

theorem exec_waitRise_counting (hl : s.line = false) (hg : s.guard ≠ 0#_) :
    exec .waitRise s = .next { s with guard := s.guard - 1#_ } :=
  (if_neg (by simp [hl])).trans (if_neg hg)

theorem exec_waitFall_high (hl : s.line = true) : exec .waitFall s = .next s := if_pos hl

theorem exec_waitFall_low (hl : s.line = false) :
    exec .waitFall s = .next { s with dly := s.cfg.delay, st := .sample } := if_neg (by simp [hl])

theorem exec_sample_done (hd : s.dly = 0#_) :
    exec .sample s = .next (s.afterSample.emit (dataCell s.line) .host) := if_pos hd

theorem exec_sample_counting (hd : s.dly ≠ 0#_) :
    exec .sample s = .next { s with dly := s.dly - 1#_ } := if_neg hd

end

/-! ### The Dispatch part of a tick, one equation per branch (R97 to R99) -/

section
variable {s : State} {x : Word} {rest : List Word}

theorem dispatched_idle (hp : s.pins.poll = false) : s.dispatched = { s with outValid := false } := by
  simp [State.dispatched, hp]

theorem dispatched_pollEmpty (hp : s.pins.poll = true) (hq : s.q = []) :
    s.dispatched = { s with outValid := false } := by
  simp [State.dispatched, hp, hq]

theorem dispatched_duplicate (hp : s.pins.poll = true) (hq : s.q = x :: rest)
    (hx : s.lastValid = true ∧ x = s.lastSeen) :
    s.dispatched = ({ s with q := rest } : State).dropDuplicate x := by
  simp [State.dispatched, hp, hq, hx]

theorem dispatched_forward (hp : s.pins.poll = true) (hq : s.q = x :: rest)
    (hx : ¬(s.lastValid = true ∧ x = s.lastSeen)) :
    s.dispatched = ({ s with q := rest } : State).forward x := by
  simp [State.dispatched, hp, hq, hx]

end

/-- A push into an empty queue leaves the pushed word alone in it, whatever the capacity. -/
theorem qPush_empty {s : State} (x : Word) (hq : s.q = []) : s.qPush x = { s with q := [x], qOvf := false } := by
  simp [State.qPush, hq]

/-! ### What the Sampler part of a `uni` build does -/

theorem afterSample_uni {s : State} (hu : s.cfg.variant = .uni) : s.afterSample = { s with st := .huntReset } := by
  simp [State.afterSample, State.entersCapture, hu]

/-- The Sampler operations of a `uni` build write a position outside the capture, the guard and the delay, and put
nothing but host cells on the wires (R62 to R66, R77). -/
theorem sampler_uni_writes {s a b : State} (hu : a.cfg.variant = .uni) (hst : a.st = s.st)
    (h : exec s.samplerInstr a = .next b) :
    ∃ st guard dly, st ≠ .captureResponse ∧
      (b = { a with st, guard, dly } ∨ ∃ c, b = ({ a with st, guard, dly } : State).emit c .host) := by
  have absent {P : Prop} (hb : a.cfg.variant = .bidir) : P := by simp [hu] at hb
  rcases sampler_cases h with ⟨hp, _, rfl⟩ | ⟨_, _, rfl⟩ | ⟨_, _, rfl⟩ | ⟨_, _, _, rfl⟩ | ⟨hp, _, _, rfl⟩ |
    ⟨hp, _, rfl⟩ | ⟨_, _, rfl⟩ | ⟨hp, _, rfl⟩ | ⟨_, _, rfl⟩ | ⟨_, _, hb, _⟩ | ⟨_, _, hb, _⟩ |
    ⟨_, _, hb, _⟩ | ⟨_, _, hb, _⟩ | ⟨_, _, hb, _⟩ | ⟨_, _, hb, _⟩
  · exact ⟨b.st, b.guard, b.dly, by simp [hst, hp], .inl rfl⟩
  · exact ⟨.waitRise, a.cfg.guard, a.dly, by decide, .inl rfl⟩
  · exact ⟨.waitFall, a.guard, a.dly, by decide, .inl rfl⟩
  · exact ⟨.huntReset, a.guard, a.dly, by decide, .inr ⟨.reset, rfl⟩⟩
  · exact ⟨a.st, a.guard - 1#_, a.dly, by simp [hst, hp], .inl rfl⟩
  · exact ⟨b.st, b.guard, b.dly, by simp [hst, hp], .inl rfl⟩
  · exact ⟨.sample, a.guard, a.cfg.delay, by decide, .inl rfl⟩
  · exact ⟨a.st, a.guard, a.dly - 1#_, by simp [hst, hp], .inl rfl⟩
  · exact ⟨.huntReset, a.guard, a.dly, by decide, .inr ⟨dataCell a.line, by rw [afterSample_uni hu]⟩⟩
  all_goals exact absent hb

/-! ### No part of a tick enters the capture -/

/-- What R77 says of a state of a `uni` build, its wires and the events of its tick. -/
structure State.NoCapture (s : State) : Prop where
  st : s.st ≠ .captureResponse
  cph : s.cph = .capWaitLow
  win : s.win.toNat = 0
  respEvent : ∀ c, Event.cell c .resp ∉ s.events
  tap : ∀ e, s.tap = some e → e.src = .host
  expired : Event.windowExpired ∉ s.events

theorem noCapture_resetRegs (s : State) : s.resetRegs.NoCapture where
  st := by simp
  cph := rfl
  win := by simp
  respEvent := by simp
  tap := by simp
  expired := by simp

theorem State.NoCapture.endTick {s : State} (h : s.NoCapture) : s.endTick.NoCapture :=
  ⟨h.st, h.cph, h.win, h.respEvent, h.tap, h.expired⟩

/-- A cell from the host's pulse, with its event, is no capture. -/
theorem State.NoCapture.emit_host {s : State} (h : s.NoCapture) (c : Cell) : (s.emit c .host).NoCapture where
  st := h.st
  cph := h.cph
  win := h.win
  respEvent := by simp [h.respEvent]
  tap := by simp
  expired := by simp [h.expired]

/-- The Dispatch part runs on clear wires and raises Dispatch events only (R97 to R99). -/
theorem noCapture_dispatched {s : State} (hst : s.st ≠ .captureResponse) (hcph : s.cph = .capWaitLow)
    (hwin : s.win.toNat = 0) : s.beginTick.dispatched.NoCapture := by
  have hev : (∀ c, Event.cell c .resp ∉ s.beginTick.dispatched.events) ∧
      Event.windowExpired ∉ s.beginTick.dispatched.events := by
    obtain ⟨_, he | ⟨w, he, _⟩, _⟩ | ⟨w, _, _, _, _, _, he⟩ := dispatched_cases s <;> simp [he]
  exact ⟨by simpa using hst, by simpa using hcph, by simpa using hwin, hev.1, by simp, hev.2⟩

theorem State.NoCapture.sampler {s a b : State} (ha : a.NoCapture) (hu : a.cfg.variant = .uni) (hst : a.st = s.st)
    (h : exec s.samplerInstr a = .next b) : b.NoCapture := by
  obtain ⟨st, guard, dly, hne, hb⟩ := sampler_uni_writes hu hst h
  have moved : ({ a with st, guard, dly } : State).NoCapture :=
    ⟨hne, ha.cph, ha.win, ha.respEvent, ha.tap, ha.expired⟩
  rcases hb with rfl | ⟨c, rfl⟩
  · exact moved
  · exact moved.emit_host c

/-- The Assembler part raises queue events only (R35, R83). -/
theorem State.NoCapture.assembled {s : State} (h : s.NoCapture) : s.assembled.NoCapture := by
  have hev : (∀ c, Event.cell c .resp ∉ s.assembled.events) ∧ Event.windowExpired ∉ s.assembled.events := by
    obtain ⟨_, _, he⟩ | ⟨_, _, _, _, _, _, _, _, he⟩ | ⟨_, _, _, _, _, _, _, _, _, _, _, he⟩ := assembled_queue s <;>
      simp [he, h.respEvent, h.expired]
  exact ⟨by simpa using h.st, by simpa using h.cph, by simpa using h.win, hev.1, by simpa using h.tap, hev.2⟩

theorem step_noCapture {s t : State} (hinv : s.Inv) (hu : s.cfg.variant = .uni) (h : step s = .next t) :
    t.NoCapture := by
  obtain ⟨hst, hwin, hcph⟩ := hinv.uni hu
  obtain ⟨_, rfl⟩ | ⟨_, b, hb, rfl⟩ := step_cases h
  · exact (noCapture_resetRegs _).endTick
  · exact ((noCapture_dispatched hst hcph hwin).sampler (by simpa using hu) (by simp) hb).assembled.endTick

/-! ### No part of a tick of a `uni` build reads `WINDOW` or `DELAY_RESP` -/

section
variable (s : State) (w d : Nat)

@[simp] theorem withWindow_tap : (s.withWindow w d).tap = s.tap := rfl
@[simp] theorem withWindow_samplerInstr : (s.withWindow w d).samplerInstr = s.samplerInstr := rfl

theorem dispatched_withWindow : (s.withWindow w d).dispatched = s.dispatched.withWindow w d := by
  cases hp : s.pins.poll
  · rw [dispatched_idle hp, dispatched_idle (s := s.withWindow w d) hp]; rfl
  · rcases hq : s.q with _ | ⟨x, rest⟩
    · rw [dispatched_pollEmpty hp hq, dispatched_pollEmpty (s := s.withWindow w d) hp hq]; rfl
    · by_cases hx : s.lastValid = true ∧ x = s.lastSeen
      · rw [dispatched_duplicate hp hq hx, dispatched_duplicate (s := s.withWindow w d) hp hq hx]; rfl
      · rw [dispatched_forward hp hq hx, dispatched_forward (s := s.withWindow w d) hp hq hx]; rfl

theorem qPush_withWindow (x : Word) : (s.withWindow w d).qPush x = (s.qPush x).withWindow w d := by
  rcases hq : s.q with _ | ⟨y, rest⟩
  · rw [qPush_empty x hq, qPush_empty (s := s.withWindow w d) x hq]; rfl
  · rcases lt_or_ge s.q.length s.cfg.qdepth with h | h
    · rw [qPush_room x h, qPush_room (s := s.withWindow w d) x h]; rfl
    · rw [qPush_full x y rest hq h, qPush_full (s := s.withWindow w d) x y rest hq h]; rfl

theorem pushBit_withWindow (b : Bool) : (s.withWindow w d).pushBit b = (s.pushBit b).withWindow w d := by
  by_cases h : s.cnt = 15#4
  · rw [pushBit_full b h, pushBit_full (s := s.withWindow w d) b h, ← qPush_withWindow]
    rfl
  · rw [pushBit_partial b h, pushBit_partial (s := s.withWindow w d) b h]; rfl

theorem assembled_withWindow : (s.withWindow w d).assembled = s.assembled.withWindow w d := by
  simp only [State.assembled, withWindow_tap]
  split
  · rfl
  · exact pushBit_withWindow s w d false
  · exact pushBit_withWindow s w d true
  · rfl

/-- The sample reads `WINDOW` where it enters the capture, which a `uni` build never does (R66). -/
theorem afterSample_withWindow (hu : s.cfg.variant = .uni) :
    (s.withWindow w d).afterSample = s.afterSample.withWindow w d := by
  rw [afterSample_uni hu, afterSample_uni (s := s.withWindow w d) hu]
  rfl

end

/-- Outside the capture the Sampler operation reads neither constant (R62 to R65). -/
theorem sampler_withWindow {s : State} (a : State) (w d : Nat) (hu : a.cfg.variant = .uni)
    (hst : s.st ≠ .captureResponse) :
    exec s.samplerInstr (a.withWindow w d) = andThen (exec s.samplerInstr a) fun b => .next (b.withWindow w d) := by
  cases hp : s.st with
  | huntReset =>
    simp only [State.samplerInstr, hp]
    cases hl : a.line
    · rw [exec_huntReset_low hl, exec_huntReset_low (s := a.withWindow w d) hl]; rfl
    · rw [exec_huntReset_high hl, exec_huntReset_high (s := a.withWindow w d) hl]; rfl
  | waitRise =>
    simp only [State.samplerInstr, hp]
    cases hl : a.line
    · by_cases hg : a.guard = 0#_
      · rw [exec_waitRise_expired hl hg, exec_waitRise_expired (s := a.withWindow w d) hl hg]; rfl
      · rw [exec_waitRise_counting hl hg, exec_waitRise_counting (s := a.withWindow w d) hl hg]; rfl
    · rw [exec_waitRise_high hl, exec_waitRise_high (s := a.withWindow w d) hl]; rfl
  | waitFall =>
    simp only [State.samplerInstr, hp]
    cases hl : a.line
    · rw [exec_waitFall_low hl, exec_waitFall_low (s := a.withWindow w d) hl]; rfl
    · rw [exec_waitFall_high hl, exec_waitFall_high (s := a.withWindow w d) hl]; rfl
  | sample =>
    simp only [State.samplerInstr, hp]
    by_cases hd : a.dly = 0#_
    · rw [exec_sample_done hd, exec_sample_done (s := a.withWindow w d) hd, afterSample_withWindow a w d hu]; rfl
    · rw [exec_sample_counting hd, exec_sample_counting (s := a.withWindow w d) hd]; rfl
  | captureResponse => exact absurd hp hst

theorem step_withWindow {s t : State} (w d : Nat) (hu : s.cfg.variant = .uni) (hst : s.st ≠ .captureResponse)
    (h : step s = .next t) : step (s.withWindow w d) = .next (t.withWindow w d) := by
  obtain ⟨hr, rfl⟩ | ⟨hr, b, hb, rfl⟩ := step_cases h
  · exact step_reset hr
  · have hd : (s.withWindow w d).beginTick.dispatched = s.beginTick.dispatched.withWindow w d :=
      dispatched_withWindow s.beginTick w d
    rw [step_run (s := s.withWindow w d) hr, hd, withWindow_samplerInstr,
      sampler_withWindow _ w d (by simpa using hu) hst, hb, andThen_next, andThen_next, assembled_withWindow]
    rfl

/-- Settles O13: the absence of the capture is kept by every part of a tick, and no part reads `WINDOW` or
`DELAY_RESP`. -/
theorem uniBuildNeverCaptures : Obligations.UniBuildNeverCaptures := by
  unfold Obligations.UniBuildNeverCaptures
  intro s t hinv hu h
  obtain ⟨hst, hcph, hwin, hresp, htap, hexp⟩ := step_noCapture hinv hu h
  exact ⟨hst, hcph, hwin, hresp, htap, hexp, fun w d => step_withWindow w d hu (hinv.uni hu).1 h⟩

end Sys2Proof.Machine
end

section
/-! The checksum test (R86 to R89) on the four nibbles of a word, and the one passing word of each 12-bit field. -/

namespace Sys2Proof.Machine

/-! ### Slices of bit vectors -/

section
variable {n : Nat}

theorem extractLsb'_zero_ushiftRight (x : BitVec n) (k len : Nat) :
    (x >>> k).extractLsb' 0 len = x.extractLsb' k len := by
  ext i
  simp

theorem extractLsb'_extractLsb' (x : BitVec n) (k : Nat) {start len m : Nat} (h : start + len ≤ m) :
    (x.extractLsb' k m).extractLsb' start len = x.extractLsb' (k + start) len := by
  ext i hi
  have hm : start + i < m := by omega
  simp [hm, Nat.add_assoc]

theorem eq_not_iff_xor_eq_allOnes (x y : BitVec n) : x = ~~~y ↔ x ^^^ y = BitVec.allOnes n := by
  have hy : ~~~y ^^^ y = BitVec.allOnes n := by rw [← BitVec.not_xor_left, BitVec.xor_self, BitVec.not_zero]
  rw [← hy, BitVec.xor_left_inj]

end

/-- Two masked words are equal exactly when the low nibbles are: the width in which the rest was computed plays no part
(R88). -/
theorem and_lowNibble_eq_iff (x y : Word) :
    x &&& 0xF#16 = y &&& 0xF#16 ↔ x.extractLsb' 0 4 = y.extractLsb' 0 4 := by
  have mask (z : Word) : (z &&& 0xF#16).toNat = (z.extractLsb' 0 4).toNat := by
    simpa using Nat.and_two_pow_sub_one_eq_mod z.toNat 4
  rw [← BitVec.toNat_inj, mask, mask, BitVec.toNat_inj]

/-! ### The fold on the nibbles of the word -/

/-- The complement and the mask of R88 commute with the fold: only the low nibbles of what is folded count. -/
theorem lowNibble_not_fold {n : Nat} (x y z : BitVec n) (h : 4 < n) :
    (~~~(x ^^^ y ^^^ z)).extractLsb' 0 4 = ~~~(x.extractLsb' 0 4 ^^^ y.extractLsb' 0 4 ^^^ z.extractLsb' 0 4) := by
  rw [BitVec.extractLsb'_not_of_lt (by omega), BitVec.extractLsb'_xor, BitVec.extractLsb'_xor]

theorem throttleAndTm_extractLsb' (w : Word) (k : Nat) (h : k + 4 ≤ 12) :
    (throttleAndTm w).extractLsb' k 4 = w.extractLsb' (4 + k) 4 :=
  extractLsb'_extractLsb' w 4 h

/-- The expected checksum folds the three upper nibbles of the word and complements the result (R88). -/
theorem checksumExpected_eq_not_xor (w : Word) :
    checksumExpected w = ~~~(w.extractLsb' 4 4 ^^^ w.extractLsb' 8 4 ^^^ w.extractLsb' 12 4) := by
  rw [checksumExpected, checksumOfField, lowNibble_not_fold _ _ _ (by decide), extractLsb'_zero_ushiftRight,
    extractLsb'_zero_ushiftRight, throttleAndTm_extractLsb' w 0 (by decide),
    throttleAndTm_extractLsb' w 4 (by decide), throttleAndTm_extractLsb' w 8 (by decide)]

/-- The expected checksum is the low nibble of the expression the source writes on the whole word (R89). -/
theorem lowNibble_wordFold (w : Word) :
    (~~~((w >>> 4) ^^^ (w >>> 8) ^^^ (w >>> 12))).extractLsb' 0 4 = checksumExpected w := by
  rw [lowNibble_not_fold _ _ _ (by decide), extractLsb'_zero_ushiftRight, extractLsb'_zero_ushiftRight,
    extractLsb'_zero_ushiftRight, checksumExpected_eq_not_xor]

/-! ### The test -/

theorem checksumOk_iff (w : Word) : checksumOk w = true ↔ checksumReceived w = checksumExpected w :=
  decide_eq_true_iff

theorem checksumOk_iff_wordFold (w : Word) :
    checksumOk w = true ↔ w &&& 0xF#16 = ~~~((w >>> 4) ^^^ (w >>> 8) ^^^ (w >>> 12)) &&& 0xF#16 := by
  rw [checksumOk_iff, and_lowNibble_eq_iff, lowNibble_wordFold, checksumReceived]

theorem checksumOk_iff_xor_nibbles (w : Word) :
    checksumOk w = true ↔
      w.extractLsb' 0 4 ^^^ w.extractLsb' 4 4 ^^^ w.extractLsb' 8 4 ^^^ w.extractLsb' 12 4 = 0xF#4 := by
  rw [checksumOk_iff, checksumReceived, checksumExpected_eq_not_xor, eq_not_iff_xor_eq_allOnes, ← BitVec.xor_assoc,
    ← BitVec.xor_assoc]
  rfl

/-- A word is its 12-bit field followed by its received checksum (R86, R87). -/
theorem throttleAndTm_append_checksumReceived (w : Word) : throttleAndTm w ++ checksumReceived w = w :=
  BitVec.extractLsb'_append_extractLsb' (w := 12) (len := 4)

/-- The passing word of a field is the field followed by its own checksum, and there is no other (R89). -/
theorem passes_with_field_iff (t : Field) (w : Word) :
    throttleAndTm w = t ∧ checksumOk w = true ↔ w = t ++ checksumOfField t := by
  constructor
  · rintro ⟨rfl, hok⟩
    have hfold : checksumReceived w = checksumOfField (throttleAndTm w) := (checksumOk_iff w).mp hok
    rw [← hfold, throttleAndTm_append_checksumReceived]
  · rintro rfl
    have hfield : throttleAndTm (t ++ checksumOfField t) = t := BitVec.extractLsb'_append_eq_left
    have hrecv : checksumReceived (t ++ checksumOfField t) = checksumOfField t := BitVec.extractLsb'_append_eq_right
    exact ⟨hfield, by rw [checksumOk_iff, hrecv, checksumExpected, hfield]⟩

/-- Settles O23: both forms of the test compare the same nibbles, and a field determines its passing word. -/
theorem checksumTestFormsAgree : Obligations.ChecksumTestFormsAgree := by
  unfold Obligations.ChecksumTestFormsAgree
  refine ⟨fun w => ⟨checksumOk_iff_wordFold w, checksumOk_iff_xor_nibbles w⟩, fun t => ?_⟩
  exact ⟨t ++ checksumOfField t, (passes_with_field_iff t _).mpr rfl,
    fun v hfield hok => (passes_with_field_iff t v).mp ⟨hfield, hok⟩⟩

end Sys2Proof.Machine
end

section
/-! The two Dispatch operations of a tick that pops no word (R97, R98): what selects them and what they write. -/

namespace Sys2Proof.Machine

/-! ### The selection by `{poll, q_avail}` (R51) -/

section
variable {s : State}

theorem decode_dispWord_idle (hp : s.pins.poll = false) : decode (.disp s.dispWord) = .ok .dispIdle := by
  rw [State.dispWord, hp]
  exact decode_disp false s.qAvail

theorem decode_dispWord_pollEmpty (hp : s.pins.poll = true) (hq : s.qAvail = false) :
    decode (.disp s.dispWord) = .ok .dispPollEmpty := by
  rw [State.dispWord, hp, hq]
  exact decode_disp true false

end

/-! ### The operations -/

theorem exec_dispIdle (s : State) : exec .dispIdle s = .next { s with outValid := false } := rfl

theorem exec_dispPollEmpty (s : State) : exec .dispPollEmpty s = .next { s with outValid := false } := rfl

/-- Settles O26: without a poll the queue plays no part in the selection, and both operations write the strobe only. -/
theorem idleAndEmptyPollOnlyClearStrobe : Obligations.IdleAndEmptyPollOnlyClearStrobe := by
  unfold Obligations.IdleAndEmptyPollOnlyClearStrobe
  exact fun s => ⟨decode_dispWord_idle, exec_dispIdle s, decode_dispWord_pollEmpty, exec_dispPollEmpty s⟩

end Sys2Proof.Machine
end

section
/-! The decoder against the opcode table (R47 to R56), the rows it fits and the codes it rejects. -/

namespace Sys2Proof.Machine

/-- The code of each operation decodes to it (R55). -/
theorem decode_encode (i : Instr) : decode (encode i) = .ok i := by
  cases i with
  | decode w => rfl
  | _ => decide

/-! ### The operations a code selects -/

/-- Only a frame code carries a word, and it selects `DECODE` of that word (R48). -/
theorem decode_eq_decode_iff (c : Code) (v : Word) : decode c = .ok (.decode v) ↔ c = .frame v := by
  cases c with
  | frame w => simp [decode, decodeFrameCode]
  | _ w =>
    simp only [decode, decodeSeq, decodeCell, decodeDisp, decodeRst]
    repeat' split
    all_goals simp

/-- A code selects an operation exactly when it fits the operation's row (R55): for `DECODE` by the format alone, for
every other operation by the few codes of its format. -/
theorem decode_eq_ok_iff (c : Code) (i : Instr) :
    decode c = .ok i ↔ (tableRow i).fits c = true ∧ ∀ v, i = .decode v → c = .frame v := by
  cases i with
  | decode v =>
    rw [decode_eq_decode_iff]
    cases c <;> simp [tableRow, Row.fits, Code.format, Code.bits]
  | _ =>
    simp only [reduceCtorEq, false_implies, implies_true, and_true]
    cases c with
    | frame w => simp [decode, decodeFrameCode, tableRow, Row.fits, Code.format]
    | _ w => revert w; decide

/-! ### The codes that select nothing -/

theorem decodeSeq_unreachable_iff (w : BitVec 5) :
    decode (.seq w) = .reject .unreachablePosition ↔ 19 ≤ w.toNat := by
  revert w; decide

theorem decode_unreachable_iff (c : Code) :
    decode c = .reject .unreachablePosition ↔ ∃ w : BitVec 5, c = .seq w ∧ 19 ≤ w.toNat := by
  cases c with
  | seq w => simp [decodeSeq_unreachable_iff]
  | cell w => revert w; decide
  | frame w => simp [decode, decodeFrameCode]
  | disp w => revert w; decide
  | rst w => revert w; decide

theorem decode_nothingSelected_iff (c : Code) : decode c = .reject .nothingSelected ↔ c = .rst 0#1 := by
  cases c with
  | frame w => simp [decode, decodeFrameCode]
  | _ w => revert w; decide

/-- Settles O1: the round trip, the opcode table and the rejected codes. -/
theorem decoderAgreesWithOpcodeTable : Obligations.DecoderAgreesWithOpcodeTable := by
  unfold Obligations.DecoderAgreesWithOpcodeTable
  exact ⟨decode_encode, decode_eq_ok_iff, decode_unreachable_iff, decode_nothingSelected_iff⟩

/-- Settles O2: six closed codes. -/
theorem sampleCodesDecode : Obligations.SampleCodesDecode := by
  unfold Obligations.SampleCodesDecode
  decide

end Sys2Proof.Machine
end

section
/-! The operations one by one (R62 to R82, R85, R97 to R99), and the step as the run of those a tick selects. -/

namespace Sys2Proof.Machine

/-! ### The capture operations of a BIDIR build, one equation per branch (R72 to R75) -/

section
variable {s : State}

theorem exec_capWaitLow_low (hb : s.cfg.variant = .bidir) (hl : s.line = false) :
    exec .capWaitLow s = .next { s with cph := .capWaitHigh } := by simp [exec, execCapWaitLow, hb, hl]

theorem exec_capWaitLow_high (hb : s.cfg.variant = .bidir) (hl : s.line = true) :
    exec .capWaitLow s = .next s.windowTick := by simp [exec, execCapWaitLow, hb, hl]

theorem exec_capWaitHigh_high (hb : s.cfg.variant = .bidir) (hl : s.line = true) :
    exec .capWaitHigh s = .next { s with dly := s.cfg.delayResp, cph := .capDelay } := by
  simp [exec, execCapWaitHigh, hb, hl]

theorem exec_capWaitHigh_low (hb : s.cfg.variant = .bidir) (hl : s.line = false) :
    exec .capWaitHigh s = .next s.windowTick := by simp [exec, execCapWaitHigh, hb, hl]

theorem exec_capDelay_counting (hb : s.cfg.variant = .bidir) (hd : s.dly ≠ 0#_) :
    exec .capDelay s = .next { s with dly := s.dly - 1#_ } := by simp [exec, execCapDelay, hb, hd]

theorem exec_capDelay_done (hb : s.cfg.variant = .bidir) (hd : s.dly = 0#_) :
    exec .capDelay s =
      .next (({ s with win := 0#_, cph := .capWaitLow, st := .huntReset } : State).emit (dataCell s.line) .resp) := by
  simp [exec, execCapDelay, hb, hd]

theorem exec_capWaitLow_uni (hu : s.cfg.variant = .uni) : exec .capWaitLow s = .refused .captureAbsentInUni := by
  simp [exec, execCapWaitLow, hu]

theorem exec_capWaitHigh_uni (hu : s.cfg.variant = .uni) : exec .capWaitHigh s = .refused .captureAbsentInUni := by
  simp [exec, execCapWaitHigh, hu]

theorem exec_capDelay_uni (hu : s.cfg.variant = .uni) : exec .capDelay s = .refused .captureAbsentInUni := by
  simp [exec, execCapDelay, hu]

end

/-- The expiry of the window, field by field (R75). -/
theorem expire_eq (s : State) :
    s.expire = { s with
      st := .huntReset
      cph := .capWaitLow
      tap := some ⟨.reset, .host⟩
      events := s.events ++ [.cell .reset .host, .windowExpired] } := by
  simp [State.expire, State.emit, State.note]

theorem entersCapture_iff (s : State) : s.entersCapture = true ↔ s.cnt = 15#4 ∧ s.cfg.variant = .bidir := by
  simp [State.entersCapture]

/-- The successor of a sample that does not enter the capture (R66). -/
theorem afterSample_hunt {s : State} (h : ¬(s.cfg.variant = .bidir ∧ s.cnt = 15#4)) :
    s.afterSample = { s with st := .huntReset } := by
  have he : s.entersCapture = false := by
    rw [← Bool.not_eq_true, entersCapture_iff]
    exact fun ⟨hc, hb⟩ => h ⟨hb, hc⟩
  simp [State.afterSample, he]

/-- The successor of a sample that completes a word in a BIDIR build (R66, R71). -/
theorem afterSample_capture {s : State} (hb : s.cfg.variant = .bidir) (hc : s.cnt = 15#4) :
    s.afterSample = { s with st := .captureResponse, cph := .capWaitLow, win := s.cfg.window } := by
  have he : s.entersCapture = true := (entersCapture_iff s).2 ⟨hc, hb⟩
  simp [State.afterSample, he]

/-! ### The statements about the Sampler's operations -/

/-- Settles O5: the two branches of the operation. -/
theorem huntResetWaitsForLowLevel : Obligations.HuntResetWaitsForLowLevel := by
  unfold Obligations.HuntResetWaitsForLowLevel
  exact fun s => ⟨exec_huntReset_low, exec_huntReset_high⟩

/-- Settles O6: the three branches, the line before the countdown. -/
theorem waitRiseRisesExpiresOrCountsDown : Obligations.WaitRiseRisesExpiresOrCountsDown := by
  unfold Obligations.WaitRiseRisesExpiresOrCountsDown
  exact fun s => ⟨exec_waitRise_high, exec_waitRise_expired, exec_waitRise_counting⟩

/-- Settles O7: the two branches of the operation. -/
theorem waitFallWaitsForFallingEdge : Obligations.WaitFallWaitsForFallingEdge := by
  unfold Obligations.WaitFallWaitsForFallingEdge
  exact fun s => ⟨exec_waitFall_low, exec_waitFall_high⟩

/-- Settles O8: the delay runs down; then the cell, with the successor of the build and the count. -/
theorem sampleClassifiesAfterDelay : Obligations.SampleClassifiesAfterDelay := by
  unfold Obligations.SampleClassifiesAfterDelay
  refine fun s => ⟨exec_sample_counting, fun hd hn => ?hunt, fun hd hb hc => ?capture⟩
  case hunt => rw [exec_sample_done hd, afterSample_hunt hn]; rfl
  case capture => rw [exec_sample_done hd, afterSample_capture hb hc]; rfl

/-- Settles O9: the low line advances; the high line is a tick of the window. -/
theorem capWaitLowAdvancesExpiresOrCountsDown : Obligations.CapWaitLowAdvancesExpiresOrCountsDown := by
  unfold Obligations.CapWaitLowAdvancesExpiresOrCountsDown
  refine fun s hb => ⟨exec_capWaitLow_low hb, fun hl hw => ?expired, fun hl hw => ?counting⟩
  case expired => rw [exec_capWaitLow_high hb hl, windowTick_zero hw, expire_eq]
  case counting => rw [exec_capWaitLow_high hb hl, windowTick_pos hw]

/-- Settles O10: the high line advances; the low line is a tick of the window. -/
theorem capWaitHighAdvancesExpiresOrCountsDown : Obligations.CapWaitHighAdvancesExpiresOrCountsDown := by
  unfold Obligations.CapWaitHighAdvancesExpiresOrCountsDown
  refine fun s hb => ⟨exec_capWaitHigh_high hb, fun hl hw => ?expired, fun hl hw => ?counting⟩
  case expired => rw [exec_capWaitHigh_low hb hl, windowTick_zero hw, expire_eq]
  case counting => rw [exec_capWaitHigh_low hb hl, windowTick_pos hw]

/-- Settles O11: the two branches of the operation. -/
theorem capDelayClassifiesResponse : Obligations.CapDelayClassifiesResponse := by
  unfold Obligations.CapDelayClassifiesResponse
  exact fun s hb => ⟨exec_capDelay_counting hb, exec_capDelay_done hb⟩

theorem wellFormed_uni_eq_false_iff (i : Instr) :
    WellFormed .uni i = false ↔ (i = .capWaitLow ∨ i = .capWaitHigh ∨ i = .capDelay) := by
  cases i <;> simp [WellFormed, Instr.bidirOnly]

/-- Settles O12: the three refusals, and the same three operations in the well-formedness check. -/
theorem uniBuildRefusesCaptureOperations : Obligations.UniBuildRefusesCaptureOperations := by
  unfold Obligations.UniBuildRefusesCaptureOperations
  exact fun s hu =>
    ⟨exec_capWaitLow_uni hu, exec_capWaitHigh_uni hu, exec_capDelay_uni hu, wellFormed_uni_eq_false_iff⟩

/-! ### The Assembler's operations (R79 to R83) -/

theorem exec_dataPush (b : Bool) (s : State) : exec (dataPush b) s = .next (s.pushBit b) := by
  cases b <;> rfl

/-- The shift of R79 with its new bit written as a vector of one bit. -/
theorem shiftIn_eq (x : Word) (b : Bool) : shiftIn x b = (x <<< 1) ||| (BitVec.ofBool b).setWidth 16 := by
  cases b <;> rfl

/-- Settles O14: a partial push, a completing push with room, and one into a full queue. -/
theorem dataPushShiftsCountsAndCompletes : Obligations.DataPushShiftsCountsAndCompletes := by
  unfold Obligations.DataPushShiftsCountsAndCompletes
  intro s b
  simp only [exec_dataPush, ← shiftIn_eq]
  refine ⟨fun hc => ?partly, fun hc hroom => ?room, fun h rest hc hq hfull => ?full⟩
  case partly => rw [pushBit_partial b hc]
  case room => rw [pushBit_full b hc, qPush_room]; exact hroom
  case full =>
    have push := (pushBit_full b hc).trans (qPush_full _ h rest hq hfull)
    rw [push, List.append_assoc]; rfl

/-- Settles O15: the same two registers are cleared a second time. -/
theorem pushResetDiscardsPartialWord : Obligations.PushResetDiscardsPartialWord := by
  unfold Obligations.PushResetDiscardsPartialWord
  exact fun s => ⟨s.discardWord, rfl, rfl, rfl⟩

/-! ### The Validator (R85 to R91) -/

theorem setWidth_and_lowNibble (x : Word) : (x &&& 0xF#16).setWidth 4 = x.extractLsb' 0 4 := by
  have hmask : (0xF#16).setWidth 4 = BitVec.allOnes 4 := by decide
  rw [BitVec.setWidth_and, hmask, BitVec.and_allOnes, BitVec.setWidth_eq_extractLsb' (by decide)]

theorem throttleOf_eq_shift (w : Word) : throttleOf w = (w >>> 5).setWidth 11 := by
  rw [throttleOf, throttleAndTm, extractLsb'_extractLsb' w 4 (by decide),
    BitVec.setWidth_eq_extractLsb' (by decide), extractLsb'_zero_ushiftRight]

theorem telemetryRequest_iff (w : Word) : telemetryRequest w = true ↔ (w >>> 4) &&& 1#16 = 1#16 := by
  have hbit : telemetryRequest w = (w >>> 4).getLsbD 0 := by simp [telemetryRequest, throttleAndTm]
  rw [hbit, BitVec.and_one_eq_setWidth_ofBool_getLsbD]
  cases (w >>> 4).getLsbD 0 <;> decide

/-- Settles O22: the fields by the formulas, the checksum by its two foldings. -/
theorem decodeSplitsWordAndFoldsChecksum : Obligations.DecodeSplitsWordAndFoldsChecksum := by
  unfold Obligations.DecodeSplitsWordAndFoldsChecksum
  refine fun s w => ⟨decodeFrame w, rfl, ?_, throttleOf_eq_shift w, telemetryRequest_iff w, ?_, ?_, checksumOk_iff w⟩
  · exact (setWidth_and_lowNibble w).symm
  · rw [setWidth_and_lowNibble, lowNibble_wordFold]; rfl
  · refine (checksumExpected_eq_not_xor w).trans ?_
    rw [← BitVec.allOnes_xor, BitVec.xor_assoc, BitVec.xor_assoc, BitVec.xor_assoc]; rfl

/-! ### The Dispatch operations (R97 to R99) -/

section
variable {s : State} {w : Word} {rest : List Word}

theorem exec_dispPop_duplicate (hq : s.q = w :: rest) (hx : s.lastValid = true ∧ w = s.lastSeen) :
    exec .dispPop s = .next (({ s with q := rest } : State).dropDuplicate w) :=
  (execDispPop_cons hq).trans (by rw [if_pos hx])

theorem exec_dispPop_forward (hq : s.q = w :: rest) (hx : ¬(s.lastValid = true ∧ w = s.lastSeen)) :
    exec .dispPop s = .next (({ s with q := rest } : State).forward w) :=
  (execDispPop_cons hq).trans (by rw [if_neg hx])

end

/-- Settles O27: the two branches for the head of the queue. -/
theorem dispPopDropsDuplicateOrForwards : Obligations.DispPopDropsDuplicateOrForwards := by
  unfold Obligations.DispPopDropsDuplicateOrForwards
  exact fun s w rest hq =>
    ⟨fun hv hw => exec_dispPop_duplicate hq ⟨hv, hw.symm⟩,
      fun hn => exec_dispPop_forward hq fun h => hn ⟨h.1, h.2.symm⟩⟩

/-- Settles O28: there is no head to take. -/
theorem popOfEmptyQueueStops : Obligations.PopOfEmptyQueueStops := by
  unfold Obligations.PopOfEmptyQueueStops
  intro s hq
  simp [exec, execDispPop, qPop_nil hq]

/-! ### The selection of a tick and its step (R50 to R52, R111) -/

theorem decode_dispWord_pop {s : State} (hp : s.pins.poll = true) (hq : s.qAvail = true) :
    decode (.disp s.dispWord) = .ok .dispPop := by
  rw [State.dispWord, hp, hq]
  exact decode_disp true true

theorem qAvail_eq_false_iff (s : State) : s.qAvail = false ↔ s.q = [] := by
  simp [State.qAvail]

theorem qAvail_eq_true_iff (s : State) : s.qAvail = true ↔ s.q ≠ [] := by
  simp [State.qAvail]

/-- Settles O3: the selectors of the two agents, decoded. -/
theorem tickSelectsByPositionAndPoll : Obligations.TickSelectsByPositionAndPoll := by
  unfold Obligations.TickSelectsByPositionAndPoll
  intro s
  refine ⟨decode_dispWord_idle, fun hp hq => decode_dispWord_pollEmpty hp ((qAvail_eq_false_iff s).2 hq),
    fun hp hq => decode_dispWord_pop hp ((qAvail_eq_true_iff s).2 hq), ?_⟩
  simp only [decode_seqWord, Decoded.ok.injEq]
  refine ⟨fun h => ?_, fun h => ?_, fun h => ?_, fun h => ?_, fun h k => ?_, fun h k => ?_, fun h k => ?_⟩
  all_goals simp [State.samplerInstr, *]

theorem runCode_of_decode {c : Code} {i : Instr} (h : decode c = .ok i) (s : State) : runCode c s = exec i s := by
  simp [runCode, h]

/-- Settles O4: the tick unfolded once, its decoded operations put in. -/
theorem stepRunsDecodedOperations : Obligations.StepRunsDecodedOperations := by
  unfold Obligations.StepRunsDecodedOperations
  refine fun s => ⟨rfl, rfl, fun hr i t hi ht => ?reset,
    fun hr d a i hd ha hi => ⟨fun r he => ?refused, fun b he => ?next⟩⟩
  case reset => simp [step, tick, hr, runCode_of_decode hi, ht]
  case refused => simp [step, tick, hr, runCode_of_decode hd, ha, runCode_of_decode hi, he]
  case next =>
    have run : step s = andThen (assemble b) fun t => .next t.endTick := by
      simp [step, tick, hr, runCode_of_decode hd, ha, runCode_of_decode hi, he]
    refine ⟨fun hb => ?_, fun e p t hb hp ht => ?_⟩
    · simp [run, assemble, hb]
    · simp [run, assemble, hb, runCode_of_decode hp, ht]

end Sys2Proof.Machine
end

section
/-! The branches of the Sampler operations by name, what each part of a tick leaves alone (R12), and the statements about
ownership and independence that follow. -/

namespace Sys2Proof.Machine

/-! ### The relations of the agents' registers -/

section
variable {s t u : State}

theorem DispatchAgrees.symm (h : DispatchAgrees s t) : DispatchAgrees t s :=
  ⟨h.lastSeen.symm, h.lastValid.symm, h.outValid.symm, h.outWord.symm, h.outThrottle.symm, h.outTlm.symm,
    h.outCrcRx.symm, h.outCrcExp.symm, h.outCrcOk.symm⟩

theorem DispatchAgrees.trans (h : DispatchAgrees s t) (k : DispatchAgrees t u) : DispatchAgrees s u :=
  ⟨h.lastSeen.trans k.lastSeen, h.lastValid.trans k.lastValid, h.outValid.trans k.outValid,
    h.outWord.trans k.outWord, h.outThrottle.trans k.outThrottle, h.outTlm.trans k.outTlm,
    h.outCrcRx.trans k.outCrcRx, h.outCrcExp.trans k.outCrcExp, h.outCrcOk.trans k.outCrcOk⟩

theorem SamplerAgrees.symm (h : SamplerAgrees s t) : SamplerAgrees t s :=
  ⟨h.cfg.symm, h.st.symm, h.cph.symm, h.guard.symm, h.dly.symm, h.win.symm, h.sr.symm, h.cnt.symm⟩

theorem SamplerAgrees.trans (h : SamplerAgrees s t) (k : SamplerAgrees t u) : SamplerAgrees s u :=
  ⟨h.cfg.trans k.cfg, h.st.trans k.st, h.cph.trans k.cph, h.guard.trans k.guard, h.dly.trans k.dly,
    h.win.trans k.win, h.sr.trans k.sr, h.cnt.trans k.cnt⟩

end

/-! ### The Dispatch part -/

theorem samplerAgrees_dispatched (s : State) : SamplerAgrees s s.beginTick.dispatched := by
  constructor <;> simp

@[simp] theorem beginTick_dispatched_pinsAt (s : State) (k : Nat) : s.beginTick.dispatched.pinsAt k = s.pinsAt k :=
  pinsAt_congr (by simp) (by simp) k

@[simp] theorem beginTick_dispatched_line (s : State) : s.beginTick.dispatched.line = s.line :=
  congrArg Pins.line (beginTick_dispatched_pinsAt s 0)

/-! ### The Sampler part -/

/-- Every operation of format `SEQ` is the operation of some position (R50). -/
theorem exists_position_of_samplerOp {i : Instr} (hi : isSamplerOp i) : ∃ p : State, p.samplerInstr = i := by
  have position (st : SeqState) (cph : CapPhase) :
      ∃ p : State, p.samplerInstr = ({ State.reset with st, cph } : State).samplerInstr := ⟨_, rfl⟩
  cases i with
  | huntReset => exact position .huntReset .capWaitLow
  | waitRise => exact position .waitRise .capWaitLow
  | waitFall => exact position .waitFall .capWaitLow
  | sample => exact position .sample .capWaitLow
  | capWaitLow => exact position .captureResponse .capWaitLow
  | capWaitHigh => exact position .captureResponse .capWaitHigh
  | capDelay => exact position .captureResponse .capDelay
  | _ => cases hi

/-- The branches of the Sampler operations, by name: what the operation of the position of `p` makes of `a` (R62 to R66,
R72 to R75). -/
inductive SamplerMove (p a : State) : State → Prop where
  | huntHolds (hp : p.st = .huntReset) (hl : a.line = true) : SamplerMove p a a
  | guardLoads (hp : p.st = .huntReset) (hl : a.line = false) :
      SamplerMove p a { a with guard := a.cfg.guard, st := .waitRise }
  | rises (hp : p.st = .waitRise) (hl : a.line = true) : SamplerMove p a { a with st := .waitFall }
  | guardExpires (hp : p.st = .waitRise) (hl : a.line = false) (hg : a.guard = 0#_) :
      SamplerMove p a (({ a with st := .huntReset } : State).emit .reset .host)
  | guardCounts (hp : p.st = .waitRise) (hl : a.line = false) (hg : a.guard ≠ 0#_) :
      SamplerMove p a { a with guard := a.guard - 1#_ }
  | fallHolds (hp : p.st = .waitFall) (hl : a.line = true) : SamplerMove p a a
  | falls (hp : p.st = .waitFall) (hl : a.line = false) : SamplerMove p a { a with dly := a.cfg.delay, st := .sample }
  | delayCounts (hp : p.st = .sample) (hd : a.dly ≠ 0#_) : SamplerMove p a { a with dly := a.dly - 1#_ }
  | samples (hp : p.st = .sample) (hd : a.dly = 0#_) :
      SamplerMove p a (a.afterSample.emit (dataCell a.line) .host)
  | captureFalls (hp : p.st = .captureResponse) (hc : p.cph = .capWaitLow) (hb : a.cfg.variant = .bidir)
      (hl : a.line = false) : SamplerMove p a { a with cph := .capWaitHigh }
  | captureRises (hp : p.st = .captureResponse) (hc : p.cph = .capWaitHigh) (hb : a.cfg.variant = .bidir)
      (hl : a.line = true) : SamplerMove p a { a with dly := a.cfg.delayResp, cph := .capDelay }
  | windowExpires (hp : p.st = .captureResponse) (hc : p.cph ≠ .capDelay) (hb : a.cfg.variant = .bidir)
      (hl : a.line = decide (p.cph = .capWaitLow)) (hw : a.win = 0#_) : SamplerMove p a a.expire
  | windowCounts (hp : p.st = .captureResponse) (hc : p.cph ≠ .capDelay) (hb : a.cfg.variant = .bidir)
      (hl : a.line = decide (p.cph = .capWaitLow)) (hw : a.win ≠ 0#_) : SamplerMove p a { a with win := a.win - 1#_ }
  | responseCounts (hp : p.st = .captureResponse) (hc : p.cph = .capDelay) (hb : a.cfg.variant = .bidir)
      (hd : a.dly ≠ 0#_) : SamplerMove p a { a with dly := a.dly - 1#_ }
  | responds (hp : p.st = .captureResponse) (hc : p.cph = .capDelay) (hb : a.cfg.variant = .bidir)
      (hd : a.dly = 0#_) :
      SamplerMove p a
        (({ a with win := 0#_, cph := .capWaitLow, st := .huntReset } : State).emit (dataCell a.line) .resp)

/-- A phase that waits for the other line level runs the window (R72, R73). -/
theorem exec_windowTick {p a : State} (hp : p.st = .captureResponse) (hc : p.cph ≠ .capDelay)
    (hb : a.cfg.variant = .bidir) (hl : a.line = decide (p.cph = .capWaitLow)) :
    exec p.samplerInstr a = .next a.windowTick := by
  cases hcph : p.cph with
  | capWaitLow => simpa only [State.samplerInstr, hp, hcph] using exec_capWaitLow_high hb (by simpa [hcph] using hl)
  | capWaitHigh => simpa only [State.samplerInstr, hp, hcph] using exec_capWaitHigh_low hb (by simpa [hcph] using hl)
  | capDelay => exact absurd hcph hc

/-- Each branch is what the operation answers. -/
theorem SamplerMove.exec_eq {p a b : State} (h : SamplerMove p a b) : exec p.samplerInstr a = .next b := by
  cases h with
  | huntHolds hp hl => simpa only [State.samplerInstr, hp] using exec_huntReset_high hl
  | guardLoads hp hl => simpa only [State.samplerInstr, hp] using exec_huntReset_low hl
  | rises hp hl => simpa only [State.samplerInstr, hp] using exec_waitRise_high hl
  | guardExpires hp hl hg => simpa only [State.samplerInstr, hp] using exec_waitRise_expired hl hg
  | guardCounts hp hl hg => simpa only [State.samplerInstr, hp] using exec_waitRise_counting hl hg
  | fallHolds hp hl => simpa only [State.samplerInstr, hp] using exec_waitFall_high hl
  | falls hp hl => simpa only [State.samplerInstr, hp] using exec_waitFall_low hl
  | delayCounts hp hd => simpa only [State.samplerInstr, hp] using exec_sample_counting hd
  | samples hp hd => simpa only [State.samplerInstr, hp] using exec_sample_done hd
  | captureFalls hp hc hb hl => simpa only [State.samplerInstr, hp, hc] using exec_capWaitLow_low hb hl
  | captureRises hp hc hb hl => simpa only [State.samplerInstr, hp, hc] using exec_capWaitHigh_high hb hl
  | windowExpires hp hc hb hl hw => rw [exec_windowTick hp hc hb hl, windowTick_zero hw]
  | windowCounts hp hc hb hl hw => rw [exec_windowTick hp hc hb hl, windowTick_pos hw]
  | responseCounts hp hc hb hd => simpa only [State.samplerInstr, hp, hc] using exec_capDelay_counting hb hd
  | responds hp hc hb hd => simpa only [State.samplerInstr, hp, hc] using exec_capDelay_done hb hd

/-- In the capture of a BIDIR build some branch applies. -/
theorem samplerMove_capture {p a : State} (hp : p.st = .captureResponse) (hb : a.cfg.variant = .bidir) :
    ∃ b, SamplerMove p a b := by
  by_cases hc : p.cph = .capDelay
  · by_cases hd : a.dly = 0#_
    · exact ⟨_, .responds hp hc hb hd⟩
    · exact ⟨_, .responseCounts hp hc hb hd⟩
  · by_cases hl : a.line = decide (p.cph = .capWaitLow)
    · by_cases hw : a.win = 0#_
      · exact ⟨_, .windowExpires hp hc hb hl hw⟩
      · exact ⟨_, .windowCounts hp hc hb hl hw⟩
    · cases hcph : p.cph with
      | capWaitLow => exact ⟨_, .captureFalls hp hcph hb (by simpa [hcph] using hl)⟩
      | capWaitHigh => exact ⟨_, .captureRises hp hcph hb (by simpa [hcph] using hl)⟩
      | capDelay => exact absurd hcph hc

/-- Some branch applies at every position but those of the capture of a `uni` build. -/
theorem samplerMove_total {p a : State} (hu : a.cfg.variant = .uni → p.st ≠ .captureResponse) :
    ∃ b, SamplerMove p a b := by
  cases hp : p.st with
  | huntReset =>
    cases hl : a.line
    · exact ⟨_, .guardLoads hp hl⟩
    · exact ⟨_, .huntHolds hp hl⟩
  | waitRise =>
    cases hl : a.line
    · by_cases hg : a.guard = 0#_
      · exact ⟨_, .guardExpires hp hl hg⟩
      · exact ⟨_, .guardCounts hp hl hg⟩
    · exact ⟨_, .rises hp hl⟩
  | waitFall =>
    cases hl : a.line
    · exact ⟨_, .falls hp hl⟩
    · exact ⟨_, .fallHolds hp hl⟩
  | sample =>
    by_cases hd : a.dly = 0#_
    · exact ⟨_, .samples hp hd⟩
    · exact ⟨_, .delayCounts hp hd⟩
  | captureResponse =>
    refine samplerMove_capture hp ?_
    cases hv : a.cfg.variant
    · exact absurd hp (hu hv)
    · rfl

theorem exec_sampler_uni_capture {p a : State} (hu : a.cfg.variant = .uni) (hp : p.st = .captureResponse) :
    exec p.samplerInstr a = .refused .captureAbsentInUni := by
  cases hc : p.cph <;> simp only [State.samplerInstr, hp, hc]
  · exact exec_capWaitLow_uni hu
  · exact exec_capWaitHigh_uni hu
  · exact exec_capDelay_uni hu

/-- There is no other answer. -/
theorem sampler_move {p a b : State} (h : exec p.samplerInstr a = .next b) : SamplerMove p a b := by
  obtain ⟨c, hc⟩ : ∃ c, SamplerMove p a c :=
    samplerMove_total fun hu hp => by simp [exec_sampler_uni_capture hu hp] at h
  have hcb : c = b := by simpa [hc.exec_eq] using h
  exact hcb ▸ hc

/-- A Sampler operation writes the position, the countdowns, the cell wires and the events, and nothing else (R12). -/
theorem sampler_writes {p a b : State} (h : exec p.samplerInstr a = .next b) :
    ∃ st cph guard dly win tap events, b = { a with st, cph, guard, dly, win, tap, events } := by
  cases sampler_move h <;> exact ⟨_, _, _, _, _, _, _, rfl⟩

theorem sampler_dispatchAgrees {s a b : State} (h : exec s.samplerInstr a = .next b) : DispatchAgrees a b := by
  obtain ⟨_, _, _, _, _, _, _, rfl⟩ := sampler_writes h
  exact ⟨rfl, rfl, rfl, rfl, rfl, rfl, rfl, rfl, rfl⟩

theorem sampler_environmentAgrees {s a b : State} (h : exec s.samplerInstr a = .next b) : EnvironmentAgrees a b := by
  obtain ⟨_, _, _, _, _, _, _, rfl⟩ := sampler_writes h
  exact ⟨rfl, rfl, rfl⟩

/-! ### The Assembler part -/

theorem dispatchAgrees_assembled (s : State) : DispatchAgrees s s.assembled := by
  constructor <;> simp

/-- An operation of format `CELL` answers next and writes no more than a data push does (R78 to R82). -/
theorem exec_assembler_writes {i : Instr} {s t : State} (hi : isAssemblerOp i) (h : exec i s = .next t) :
    ∃ sr cnt q qOvf events, t = { s with sr, cnt, q, qOvf, events } := by
  cases i with
  | pushZero => cases h; exact pushBit_writes s false
  | pushOne => cases h; exact pushBit_writes s true
  | pushReset => cases h; exact ⟨_, _, _, _, _, rfl⟩
  | _ => cases hi

/-- An operation of format `DISP` writes the queue, the Dispatch registers, the Validator's wires and the events
(R97 to R99). -/
theorem exec_dispatch_writes {i : Instr} {s t : State} (hi : isDispatchOp i) (h : exec i s = .next t) :
    ∃ q lastSeen lastValid outValid outWord outThrottle outTlm outCrcRx outCrcExp outCrcOk frame events,
      t = { s with
        q, lastSeen, lastValid, outValid, outWord, outThrottle, outTlm, outCrcRx, outCrcExp, outCrcOk, frame,
        events } := by
  cases i with
  | dispIdle => cases h; exact ⟨_, _, _, _, _, _, _, _, _, _, _, _, rfl⟩
  | dispPollEmpty => cases h; exact ⟨_, _, _, _, _, _, _, _, _, _, _, _, rfl⟩
  | dispPop =>
    cases hq : s.q with
    | nil => simp [exec, execDispPop, qPop_nil hq] at h
    | cons w rest =>
      have ht := (execDispPop_cons hq).symm.trans h
      split at ht <;> cases ht <;> exact ⟨_, _, _, _, _, _, _, _, _, _, _, _, rfl⟩
  | _ => cases hi

/-- Settles O41: the registers each format of operation writes, agent by agent. -/
theorem operationsWriteOnlyTheirAgentsRegisters : Obligations.OperationsWriteOnlyTheirAgentsRegisters := by
  unfold Obligations.OperationsWriteOnlyTheirAgentsRegisters
  refine ⟨fun i s t hi h => ?sampler, fun i s t hi h => ?assembler, fun i s t hi h => ?dispatch⟩
  case sampler =>
    obtain ⟨p, rfl⟩ := exists_position_of_samplerOp hi
    refine ⟨sampler_dispatchAgrees h, sampler_environmentAgrees h, ?_⟩
    obtain ⟨_, _, _, _, _, _, _, rfl⟩ := sampler_writes h
    exact ⟨rfl, rfl, rfl, rfl, rfl⟩
  case assembler =>
    obtain ⟨_, _, _, _, _, rfl⟩ := exec_assembler_writes hi h
    exact ⟨⟨rfl, rfl, rfl, rfl, rfl, rfl, rfl, rfl, rfl⟩, ⟨rfl, rfl, rfl⟩, rfl, rfl, rfl, rfl, rfl, rfl, rfl⟩
  case dispatch =>
    obtain ⟨_, _, _, _, _, _, _, _, _, _, _, _, rfl⟩ := exec_dispatch_writes hi h
    exact ⟨⟨rfl, rfl, rfl, rfl, rfl, rfl, rfl, rfl⟩, ⟨rfl, rfl, rfl⟩, rfl, rfl⟩

/-! ### The step -/

/-- A tick without reset, from the branch of the Sampler operation that applies (R111). -/
theorem step_of_move {s b : State} (hr : s.pins.rst = false) (h : SamplerMove s s.beginTick.dispatched b) :
    step s = .next b.assembled.endTick := by
  rw [step_run hr, h.exec_eq, andThen_next]

/-! ### The step: the build, the pins and the Dispatch registers -/

/-- A tick takes one set of pins, whatever it runs (R7, R114). -/
theorem step_environment {s t : State} (h : step s = .next t) :
    t.cfg = s.cfg ∧ t.stim = s.stim.drop 1 ∧ t.now = s.now + 1 := by
  obtain ⟨_, rfl⟩ | ⟨_, b, hb, rfl⟩ := step_cases h
  · simp
  · have hab := sampler_environmentAgrees hb
    simp [← hab.cfg, ← hab.stim, ← hab.now]

theorem step_pinsAt {s t : State} (h : step s = .next t) (k : Nat) : t.pinsAt k = s.pinsAt (k + 1) := by
  obtain ⟨_, hstim, hnow⟩ := step_environment h
  rw [← endTick_pinsAt]
  exact pinsAt_congr hstim hnow k

/-- Settles O40: the environment part of a step, with the pins read off it. -/
theorem stepKeepsBuildAndTakesOnePinSet : Obligations.StepKeepsBuildAndTakesOnePinSet := by
  unfold Obligations.StepKeepsBuildAndTakesOnePinSet
  intro s t h
  obtain ⟨hcfg, _, hnow⟩ := step_environment h
  exact ⟨hcfg, hnow, step_pinsAt h⟩

/-- After a tick without reset the Dispatch registers are those the Dispatch part left. -/
theorem step_dispatchAgrees {s t : State} (hr : s.pins.rst = false) (h : step s = .next t) :
    DispatchAgrees s.beginTick.dispatched t := by
  obtain ⟨hr', _⟩ | ⟨_, b, hb, rfl⟩ := step_cases h
  · simp [hr] at hr'
  · exact (sampler_dispatchAgrees hb).trans { dispatchAgrees_assembled b with }

/-- The Dispatch part reads the Dispatch registers, the poll and the head of the queue (R96 to R99). -/
theorem dispatchAgrees_dispatched {s t : State} (h : DispatchAgrees s t) (hq : s.q.head? = t.q.head?)
    (hp : s.pins.poll = t.pins.poll) : DispatchAgrees s.dispatched t.dispatched := by
  cases hps : s.pins.poll with
  | false =>
    rw [dispatched_idle hps, dispatched_idle (s := t) (hp ▸ hps)]
    exact { h with outValid := rfl }
  | true =>
    have hpt : t.pins.poll = true := hp ▸ hps
    cases hqs : s.q with
    | nil =>
      have hqt : t.q = [] := by rw [← List.head?_eq_none_iff, ← hq, hqs, List.head?_nil]
      rw [dispatched_pollEmpty hps hqs, dispatched_pollEmpty hpt hqt]
      exact { h with outValid := rfl }
    | cons w rest =>
      obtain ⟨rest', hqt⟩ : ∃ rest', t.q = w :: rest' := by
        rw [← List.head?_eq_some_iff, ← hq, hqs, List.head?_cons]
      by_cases hx : s.lastValid = true ∧ w = s.lastSeen
      · rw [dispatched_duplicate hps hqs hx, dispatched_duplicate hpt hqt (h.lastValid ▸ h.lastSeen ▸ hx)]
        exact { h with outValid := rfl }
      · rw [dispatched_forward hps hqs hx, dispatched_forward hpt hqt (h.lastValid ▸ h.lastSeen ▸ hx)]
        exact ⟨rfl, rfl, rfl, rfl, rfl, rfl, rfl, rfl, rfl⟩

/-- Settles O43: the Dispatch part reads nothing else, and no later part writes a Dispatch register. -/
theorem dispatchSeesOnlyTheQueue : Obligations.DispatchSeesOnlyTheQueue := by
  unfold Obligations.DispatchSeesOnlyTheQueue
  intro s t s' t' hst hq hr hp hs ht
  cases hrs : s.pins.rst with
  | true =>
    rw [step_reset hrs] at hs
    rw [step_reset (hr ▸ hrs)] at ht
    cases hs; cases ht
    exact ⟨rfl, rfl, rfl, rfl, rfl, rfl, rfl, rfl, rfl⟩
  | false =>
    have hd : DispatchAgrees s.beginTick.dispatched t.beginTick.dispatched :=
      dispatchAgrees_dispatched { hst with } hq hp
    exact ((step_dispatchAgrees hrs hs).symm.trans hd).trans (step_dispatchAgrees (hr ▸ hrs) ht)

end Sys2Proof.Machine
end

section
/-! Reset, and the invariants that every step keeps: the outputs show the last accepted word (R40, R99), and the clauses
of R29. -/

namespace Sys2Proof.Machine

/-! ### Reset (R119, R30) -/

/-- Settles O34: reset writes every register and keeps the build and the listed pins. -/
theorem rstResetsEveryRegister : Obligations.RstResetsEveryRegister := by
  unfold Obligations.RstResetsEveryRegister
  exact fun s => rfl

/-- Settles O35: a reset tick is the reset operation between the beginning and the end of a tick. -/
theorem resetTickOverridesEverything : Obligations.ResetTickOverridesEverything := by
  unfold Obligations.ResetTickOverridesEverything
  exact fun s hr => step_reset hr

/-- Settles O36: each entry of the table, read off the reset state. -/
theorem resetStateIsTheTable : Obligations.ResetStateIsTheTable := by
  unfold Obligations.ResetStateIsTheTable
  exact ⟨rfl, rfl, rfl, rfl, rfl, rfl, rfl, rfl, rfl, rfl, rfl, rfl, rfl, rfl, rfl, rfl, rfl, rfl, rfl⟩

/-! ### The output registers -/

/-- The invariant speaks of the Dispatch registers only. -/
theorem State.OutputsShowLastAccepted.congr {s t : State} (h : s.OutputsShowLastAccepted) (hst : DispatchAgrees s t) :
    t.OutputsShowLastAccepted := by
  obtain ⟨hword, hfields, hstrobe⟩ := h
  obtain ⟨hls, hlv, hov, how, hot, htl, hrx, hex, hok⟩ := hst
  rw [hls, hlv, how] at hword
  rw [hls, hlv, hot, htl, hrx, hex, hok] at hfields
  rw [hov, hlv] at hstrobe
  exact ⟨hword, hfields, hstrobe⟩

/-- Before a word has been accepted, with the strobe low, the invariant asks for nothing. -/
theorem outputsShowLastAccepted_of_not_valid {s : State} (hv : s.lastValid = false) (ho : s.outValid = false) :
    s.OutputsShowLastAccepted := by
  constructor <;> simp [hv, ho]

theorem State.OutputsShowLastAccepted.strobe_low {s : State} (h : s.OutputsShowLastAccepted) :
    ({ s with outValid := false } : State).OutputsShowLastAccepted :=
  ⟨h.word, h.fields, by simp⟩

theorem outputsShowLastAccepted_forward (s : State) (w : Word) : (s.forward w).OutputsShowLastAccepted :=
  ⟨fun _ => rfl, fun _ => ⟨rfl, rfl, rfl, rfl, rfl⟩, fun _ => rfl⟩

theorem State.OutputsShowLastAccepted.dispatched {s : State} (h : s.OutputsShowLastAccepted) :
    s.dispatched.OutputsShowLastAccepted := by
  cases hp : s.pins.poll with
  | false => rw [dispatched_idle hp]; exact h.strobe_low
  | true =>
    cases hq : s.q with
    | nil => rw [dispatched_pollEmpty hp hq]; exact h.strobe_low
    | cons w rest =>
      by_cases hx : s.lastValid = true ∧ w = s.lastSeen
      · rw [dispatched_duplicate hp hq hx]
        exact h.strobe_low.congr ⟨rfl, rfl, rfl, rfl, rfl, rfl, rfl, rfl, rfl⟩
      · rw [dispatched_forward hp hq hx]
        exact outputsShowLastAccepted_forward _ w

/-- Settles O32: the Dispatch part keeps the invariant, and the rest of the tick writes no Dispatch register. -/
theorem outputsKeepShowingLastAccepted : Obligations.OutputsKeepShowingLastAccepted := by
  unfold Obligations.OutputsKeepShowingLastAccepted
  intro s t hs h
  cases hr : s.pins.rst with
  | true =>
    rw [step_reset hr] at h
    cases h
    exact outputsShowLastAccepted_of_not_valid rfl rfl
  | false =>
    have hbegin : s.beginTick.OutputsShowLastAccepted := hs.congr ⟨rfl, rfl, rfl, rfl, rfl, rfl, rfl, rfl, rfl⟩
    exact hbegin.dispatched.congr (step_dispatchAgrees hr h)

/-! ### The invariants of R29: the position and the countdowns -/

/-- The clauses of R29 on the position and the countdowns. They speak of nothing the other agents write, so every part
of a tick keeps them by itself. -/
structure State.PositionInv (s : State) : Prop where
  legal : s.cfg.wf = true
  phase : s.st ≠ .captureResponse → s.cph = .capWaitLow
  uni : s.cfg.variant = .uni → s.st ≠ .captureResponse ∧ s.win.toNat = 0 ∧ s.cph = .capWaitLow
  delay : ¬(s.st = .sample ∨ (s.st = .captureResponse ∧ s.cph = .capDelay)) → s.dly.toNat = 0
  guardLe : s.guard.toNat ≤ s.cfg.guard.toNat
  winLe : s.cfg.variant = .bidir → s.win.toNat ≤ s.cfg.window.toNat
  dlyLe : s.dly.toNat ≤ s.cfg.maxDelay

/-- The invariants of R29 are those of the position together with those of the Assembler's count and the queue. -/
theorem inv_iff (s : State) :
    s.Inv ↔ s.PositionInv ∧ (s.st = .captureResponse → s.cnt = 0#4) ∧ s.q.length ≤ s.cfg.qdepth :=
  ⟨fun h => ⟨⟨h.legal, h.phase, h.uni, h.delay, h.guardLe, h.winLe, h.dlyLe⟩, h.capture, h.depth⟩,
    fun ⟨h, hcapture, hdepth⟩ => ⟨h.legal, h.phase, h.uni, hcapture, hdepth, h.delay, h.guardLe, h.winLe, h.dlyLe⟩⟩

/-- A build R7 allows has room for a word. -/
theorem one_le_qdepth {c : Config} (h : c.wf = true) : 1 ≤ c.qdepth := by
  simp only [Config.wf, Bool.and_eq_true, decide_eq_true_eq] at h
  obtain ⟨⟨_, hq⟩, _⟩ := h
  exact hq

theorem delay_le_maxDelay (c : Config) : c.delay.toNat ≤ c.maxDelay := by
  unfold Config.maxDelay
  split
  · exact Nat.le_refl _
  · exact Nat.le_max_left _ _

theorem delayResp_le_maxDelay {c : Config} (h : c.variant = .bidir) : c.delayResp.toNat ≤ c.maxDelay := by
  simp [Config.maxDelay, h]

theorem countdown_pred_le {n : Nat} {x : BitVec n} (h : x ≠ 0#n) : (x - 1#n).toNat ≤ x.toNat := by
  rw [countdown_pred h]
  exact Nat.sub_le _ _

theorem State.PositionInv.congr {s t : State} (h : s.PositionInv) (hcfg : s.cfg = t.cfg) (hst : s.st = t.st)
    (hcph : s.cph = t.cph) (hguard : s.guard.toNat = t.guard.toNat) (hdly : s.dly.toNat = t.dly.toNat)
    (hwin : s.win.toNat = t.win.toNat) : t.PositionInv := by
  obtain ⟨legal, phase, uni, delay, guardLe, winLe, dlyLe⟩ := h
  rw [hst, hcph] at phase delay
  rw [hst, hcph, hwin, hcfg] at uni
  rw [hcfg] at legal
  rw [hguard, hcfg] at guardLe
  rw [hwin, hcfg] at winLe
  rw [hdly] at delay
  rw [hdly, hcfg] at dlyLe
  exact ⟨legal, phase, uni, delay, guardLe, winLe, dlyLe⟩

theorem State.PositionInv.resetRegs {s : State} (h : s.PositionInv) : s.resetRegs.PositionInv where
  legal := h.legal
  phase := fun _ => rfl
  uni := fun _ => by simp
  delay := fun _ => by simp
  guardLe := by simp
  winLe := fun _ => by simp
  dlyLe := by simp

theorem State.PositionInv.dispatched {s : State} (h : s.PositionInv) : s.beginTick.dispatched.PositionInv :=
  have hd := samplerAgrees_dispatched s
  h.congr hd.cfg hd.st hd.cph hd.guard hd.dly hd.win

theorem State.PositionInv.assembled {s : State} (h : s.PositionInv) : s.assembled.PositionInv := by
  refine h.congr ?_ ?_ ?_ ?_ ?_ ?_ <;> simp


theorem State.PositionInv.emit {s : State} (h : s.PositionInv) (c : Cell) (src : Source) : (s.emit c src).PositionInv :=
  ⟨h.legal, h.phase, h.uni, h.delay, h.guardLe, h.winLe, h.dlyLe⟩

/-- A move to a position outside the capture, with no delay running. -/
theorem State.PositionInv.moveOutside {s : State} {st : SeqState} {cph : CapPhase} (h : s.PositionInv)
    (hd : s.dly.toNat = 0) (hst : st ≠ .captureResponse) (hcph : cph = .capWaitLow) :
    ({ s with st, cph } : State).PositionInv :=
  ⟨h.legal, fun _ => hcph, fun hu => ⟨hst, (h.uni hu).2.1, hcph⟩, fun _ => hd, h.guardLe, h.winLe, h.dlyLe⟩

/-- The sample is taken with the delay run down: it leaves a position outside the capture, or the first one of a window
that has its start value (R66, R71). -/
theorem State.PositionInv.afterSample {s : State} (h : s.PositionInv) (hst : s.st = .sample) (hd : s.dly = 0#_) :
    s.afterSample.PositionInv := by
  have hdly : s.dly.toNat = 0 := (countdown_eq_zero _).1 hd
  cases he : s.entersCapture with
  | false =>
    have hcph : s.cph = .capWaitLow := h.phase (by simp [hst])
    refine ⟨h.legal, ?_, ?_, ?_, h.guardLe, ?_, h.dlyLe⟩
    · simp [he, hcph]
    · simpa [he, hcph] using fun hu => (h.uni hu).2.1
    · simp [hdly]
    · simpa [he] using h.winLe
  | true =>
    have hb : s.cfg.variant = .bidir := ((entersCapture_iff s).1 he).2
    refine ⟨h.legal, ?_, ?_, ?_, h.guardLe, ?_, h.dlyLe⟩
    · simp [he]
    · simp [hb]
    · simp [hdly]
    · simp [he]

theorem State.PositionInv.sampler {s a b : State} (ha : a.PositionInv) (hst : a.st = s.st) (hcph : a.cph = s.cph)
    (h : exec s.samplerInstr a = .next b) : b.PositionInv := by
  have outside (hne : s.st ≠ .captureResponse) : a.cph = .capWaitLow := ha.phase (hst ▸ hne)
  have wait (hs : s.st ≠ .sample) (hd : ¬(s.st = .captureResponse ∧ s.cph = .capDelay)) : a.dly.toNat = 0 :=
    ha.delay (by rw [hst, hcph]; exact not_or.2 ⟨hs, hd⟩)
  have absent {P : Prop} (hb : a.cfg.variant = .bidir) (hu : a.cfg.variant = .uni) : P := by simp [hb] at hu
  have moves {st : SeqState} (hs : s.st ≠ .sample) (hne : s.st ≠ .captureResponse) (hst' : st ≠ .captureResponse) :
      ({ a with st } : State).PositionInv :=
    ha.moveOutside (wait hs (not_and_of_not_left _ hne)) hst' (outside hne)
  cases sampler_move h with
  | huntHolds => exact ha
  | guardLoads hp =>
    have moved := moves (st := .waitRise) (by simp [hp]) (by simp [hp]) (by decide)
    exact { moved with guardLe := Nat.le_refl _ }
  | rises hp => exact moves (by simp [hp]) (by simp [hp]) (by decide)
  | guardExpires hp => exact (moves (by simp [hp]) (by simp [hp]) (by decide)).emit _ _
  | guardCounts _ _ hg => exact { ha with guardLe := (countdown_pred_le hg).trans ha.guardLe }
  | fallHolds => exact ha
  | falls hp =>
    have moved := moves (st := .sample) (by simp [hp]) (by simp [hp]) (by decide)
    exact { moved with delay := fun hn => absurd (.inl rfl) hn, dlyLe := delay_le_maxDelay _ }
  | delayCounts hp hd =>
    exact { ha with
      delay := fun hn => absurd (.inl (hst.trans hp)) hn
      dlyLe := (countdown_pred_le hd).trans ha.dlyLe }
  | samples hp hd => exact (ha.afterSample (hst.trans hp) hd).emit _ _
  | captureFalls hp hc hb =>
    exact { ha with
      phase := fun hn => absurd (hst.trans hp) hn
      uni := absent hb
      delay := fun _ => wait (by simp [hp]) (by simp [hc]) }
  | captureRises hp hc hb =>
    exact { ha with
      phase := fun hn => absurd (hst.trans hp) hn
      uni := absent hb
      delay := fun hn => absurd (.inr ⟨hst.trans hp, rfl⟩) hn
      dlyLe := delayResp_le_maxDelay hb }
  | windowExpires hp hc =>
    exact (ha.moveOutside (st := .huntReset) (wait (by simp [hp]) (by simp [hc])) (by decide) rfl).congr
      rfl rfl rfl rfl rfl rfl
  | windowCounts _ _ hb _ hw =>
    exact { ha with
      uni := absent hb
      winLe := fun hb' => (countdown_pred_le hw).trans (ha.winLe hb') }
  | responseCounts hp hc _ hd =>
    exact { ha with
      delay := fun hn => absurd (.inr ⟨hst.trans hp, hcph.trans hc⟩) hn
      dlyLe := (countdown_pred_le hd).trans ha.dlyLe }
  | responds _ _ hb hd =>
    have moved := ha.moveOutside (st := .huntReset) ((countdown_eq_zero _).1 hd) (by decide) rfl
    have consumed : ({ a with win := 0#_, cph := .capWaitLow, st := .huntReset } : State).PositionInv :=
      { moved with uni := absent hb, winLe := fun _ => by simp }
    exact consumed.emit _ _

/-- No part of a tick breaks the clauses on the position and the countdowns. -/
theorem step_positionInv {s t : State} (hs : s.PositionInv) (h : step s = .next t) : t.PositionInv := by
  obtain ⟨_, rfl⟩ | ⟨_, b, hb, rfl⟩ := step_cases h
  · exact hs.resetRegs.congr rfl rfl rfl rfl rfl rfl
  · exact (hs.dispatched.sampler (by simp) (by simp) hb).assembled.congr rfl rfl rfl rfl rfl rfl

/-! ### The invariants of R29: the count and the queue -/

/-- The Sampler part ends in the capture only where it stayed there without a cell, or where the sample that completes a
word entered it (R66, R72 to R74). -/
theorem sampler_capture {s a b : State} (ha : a.tap = none) (hst : a.st = s.st) (h : exec s.samplerInstr a = .next b)
    (hb : b.st = .captureResponse) :
    (s.st = .captureResponse ∧ b.tap = none ∧ b.cnt = a.cnt) ∨
      (b.cnt = 15#4 ∧ ∃ v src, b.tap = some ⟨dataCell v, src⟩) := by
  cases sampler_move h with
  | huntHolds hp => simp [hst, hp] at hb
  | guardCounts hp => simp [hst, hp] at hb
  | fallHolds hp => simp [hst, hp] at hb
  | delayCounts hp => simp [hst, hp] at hb
  | samples =>
    have he : a.entersCapture = true := by simpa using hb
    exact .inr ⟨((entersCapture_iff a).1 he).1, _, _, rfl⟩
  | captureFalls hp => exact .inl ⟨hp, ha, rfl⟩
  | captureRises hp => exact .inl ⟨hp, ha, rfl⟩
  | windowCounts hp => exact .inl ⟨hp, ha, rfl⟩
  | responseCounts hp => exact .inl ⟨hp, ha, rfl⟩
  | _ => cases hb

theorem assembled_of_no_cell {s : State} (h : s.tap = none) : s.assembled = s := by
  simp [State.assembled, h]

theorem assembled_of_data {s : State} {v : Bool} {src : Source} (h : s.tap = some ⟨dataCell v, src⟩) :
    s.assembled = s.pushBit v := by
  cases v <;> simp [State.assembled, h, dataCell]

theorem assembled_of_reset {s : State} {src : Source} (h : s.tap = some ⟨.reset, src⟩) :
    s.assembled = s.discardWord := by
  simp [State.assembled, h]

/-- A data push that finds fifteen bits leaves none pending (R83). -/
theorem pushBit_full_cnt {s : State} (v : Bool) (h : s.cnt = 15#4) : (s.pushBit v).cnt = 0#4 := by
  rcases pushBit_cases s v with ⟨hn, _⟩ | ⟨_, _, e⟩ | ⟨_, _, _, _, _, e⟩
  · exact absurd h hn
  · rw [e]
  · rw [e]

/-- In the capture no bit is pending: the sample that opens the window completes a word (R29 d). -/
theorem step_capture_cnt {s t : State} (hs : s.st = .captureResponse → s.cnt = 0#4) (h : step s = .next t)
    (ht : t.st = .captureResponse) : t.cnt = 0#4 := by
  obtain ⟨_, rfl⟩ | ⟨_, b, hb, rfl⟩ := step_cases h
  · rfl
  · have hbst : b.st = .captureResponse := by simpa using ht
    rcases sampler_capture (by simp) (by simp) hb hbst with ⟨hst, htap, hcnt⟩ | ⟨hcnt, v, src, htap⟩
    · simp [assembled_of_no_cell htap, hcnt, hs hst]
    · simp [assembled_of_data htap, pushBit_full_cnt v hcnt]

theorem dispatched_q_length_le (s : State) : s.dispatched.q.length ≤ s.q.length := by
  rw [dispatched_q]
  split <;> simp

/-- The Assembler part drops the oldest word where there is no room (R35). -/
theorem assembled_q_length_le {s : State} (hroom : 1 ≤ s.cfg.qdepth) (hq : s.q.length ≤ s.cfg.qdepth) :
    s.assembled.q.length ≤ s.cfg.qdepth := by
  rcases assembled_queue s with ⟨e, _⟩ | ⟨_, _, _, _, _, hfree, e, _⟩ | ⟨_, _, _, _, _, _, _, hx, _, e, _⟩ <;> rw [e]
  · exact hq
  · rcases hfree with hlt | hnil
    · simpa using hlt
    · simpa [hnil] using hroom
  · simpa [hx] using hq

/-- The queue stays within its capacity (R29 f). -/
theorem step_depth {s t : State} (hroom : 1 ≤ s.cfg.qdepth) (hq : s.q.length ≤ s.cfg.qdepth) (h : step s = .next t) :
    t.q.length ≤ t.cfg.qdepth := by
  obtain ⟨_, rfl⟩ | ⟨_, b, hb, rfl⟩ := step_cases h
  · simp
  · obtain ⟨hbq, hbcfg, _⟩ := sampler_frame hb (by simp)
    have hcfg : b.cfg = s.cfg := by simpa using hbcfg
    have hlen : b.q.length ≤ s.q.length := hbq ▸ dispatched_q_length_le s.beginTick
    simpa using assembled_q_length_le (hcfg ▸ hroom) (hcfg ▸ hlen.trans hq)

/-- Settles O38: the clauses on the position, the pending bits and the queue are kept one by one. -/
theorem stepKeepsInvariants : Obligations.StepKeepsInvariants := by
  unfold Obligations.StepKeepsInvariants
  intro s t hs h
  obtain ⟨hpos, hcapture, hdepth⟩ := (inv_iff s).1 hs
  exact (inv_iff t).2 ⟨step_positionInv hpos h, step_capture_cnt hcapture h,
    step_depth (one_le_qdepth hs.legal) hdepth h⟩

theorem positionInv_resetOf {c : Config} (h : c.wf = true) : (State.resetOf c).PositionInv where
  legal := h
  phase := fun _ => rfl
  uni := fun _ => by simp [State.resetOf]
  delay := fun _ => rfl
  guardLe := Nat.zero_le _
  winLe := fun _ => Nat.zero_le _
  dlyLe := Nat.zero_le _

/-- The reset state of any legal build meets the invariants. -/
theorem inv_resetOf {c : Config} (h : c.wf = true) : (State.resetOf c).Inv :=
  (inv_iff _).2 ⟨positionInv_resetOf h, fun _ => rfl, Nat.zero_le _⟩

/-- Settles O37: the build of the reset state is legal, and nothing has been accepted. -/
theorem resetMeetsInvariants : Obligations.ResetMeetsInvariants := by
  unfold Obligations.ResetMeetsInvariants
  exact ⟨inv_resetOf build_wf, outputsShowLastAccepted_of_not_valid rfl rfl⟩

/-! ### Progress (R104) -/

/-- A tick goes on outside the capture of a `uni` build. -/
theorem step_answers {s : State} (hu : s.cfg.variant = .uni → s.st ≠ .captureResponse) : ∃ t, step s = .next t := by
  cases hr : s.pins.rst with
  | true => exact ⟨_, step_reset hr⟩
  | false =>
    obtain ⟨b, hb⟩ : ∃ b, SamplerMove s s.beginTick.dispatched b := samplerMove_total (by simpa using hu)
    exact ⟨_, step_of_move hr hb⟩

/-- Settles O39: by R29 c a state that meets the invariants is in no capture of a `uni` build. -/
theorem stepNeverStops : Obligations.StepNeverStops := by
  unfold Obligations.StepNeverStops
  exact fun s hs => step_answers fun hu => (hs.uni hu).1

/-! ### One tick from the queue to the outputs (R138) -/

/-- Settles O33: the next state meets the invariants, so its step goes on, and its Dispatch part forwards the head. -/
theorem wordIsForwardedOneTickAfterEnqueue : Obligations.WordIsForwardedOneTickAfterEnqueue := by
  unfold Obligations.WordIsForwardedOneTickAfterEnqueue
  intro s a w hs ha _ hq hr hp hn
  obtain ⟨b, hb⟩ := stepNeverStops a (stepKeepsInvariants s a hs ha)
  have hd : a.beginTick.dispatched = ({ a.beginTick with q := [] } : State).forward w :=
    dispatched_forward hp hq fun h => hn ⟨h.1, h.2.symm⟩
  obtain ⟨_, _, hov, how, hot, htl, hrx, hex, hok⟩ := hd ▸ step_dispatchAgrees hr hb
  exact ⟨b, hb, hov.symm, how.symm, hot.symm, htl.symm, hrx.symm, hex.symm, hok.symm⟩

/-! ### The countdowns (R19 to R21) -/

theorem countdown_pred_succ {n : Nat} {x : BitVec n} (h : x ≠ 0#n) : (x - 1#n).toNat + 1 = x.toNat := by
  have hx : x.toNat ≠ 0 := fun h0 => h ((countdown_eq_zero x).2 h0)
  rw [countdown_pred h]
  omega

/-- What the Sampler part does to the guard (R19). -/
theorem sampler_guard {s a b : State} (hst : a.st = s.st) (h : exec s.samplerInstr a = .next b) :
    b.guard.toNat = a.guard.toNat ∨
      (s.st = .huntReset ∧ b.st = .waitRise ∧ b.guard.toNat = a.cfg.guard.toNat) ∨
      (s.st = .waitRise ∧ b.st = .waitRise ∧ b.guard.toNat + 1 = a.guard.toNat) := by
  cases sampler_move h with
  | guardLoads hp => exact .inr (.inl ⟨hp, rfl, rfl⟩)
  | guardCounts hp _ hg => exact .inr (.inr ⟨hp, hst.trans hp, countdown_pred_succ hg⟩)
  | _ => exact .inl rfl

/-- What the Sampler part does to the delay (R20). -/
theorem sampler_dly {s a b : State} (h : exec s.samplerInstr a = .next b) :
    b.dly.toNat = a.dly.toNat ∨
      (s.st = .waitFall ∧ b.st = .sample ∧ b.dly.toNat = a.cfg.delay.toNat) ∨
      (s.st = .captureResponse ∧ s.cph = .capWaitHigh ∧ b.cph = .capDelay ∧ b.dly.toNat = a.cfg.delayResp.toNat) ∨
      ((s.st = .sample ∨ (s.st = .captureResponse ∧ s.cph = .capDelay)) ∧ b.dly.toNat + 1 = a.dly.toNat) := by
  cases sampler_move h with
  | falls hp => exact .inr (.inl ⟨hp, rfl, rfl⟩)
  | captureRises hp hc => exact .inr (.inr (.inl ⟨hp, hc, rfl, rfl⟩))
  | delayCounts hp hd => exact .inr (.inr (.inr ⟨.inl hp, countdown_pred_succ hd⟩))
  | responseCounts hp hc _ hd => exact .inr (.inr (.inr ⟨.inr ⟨hp, hc⟩, countdown_pred_succ hd⟩))
  | _ => exact .inl rfl

/-- What the Sampler part does to the window (R21). -/
theorem sampler_win {s a b : State} (h : exec s.samplerInstr a = .next b) :
    b.win.toNat = a.win.toNat ∨
      (s.st = .sample ∧ b.st = .captureResponse ∧ b.win.toNat = a.cfg.window.toNat) ∨
      (s.st = .captureResponse ∧ s.cph ≠ .capDelay ∧ b.win.toNat + 1 = a.win.toNat) ∨
      (s.st = .captureResponse ∧ s.cph = .capDelay ∧ b.st = .huntReset ∧ b.win.toNat = 0) := by
  cases sampler_move h with
  | samples hp =>
    cases he : a.entersCapture with
    | false => exact .inl (by simp [he])
    | true => exact .inr (.inl ⟨hp, by simp [he], by simp [he]⟩)
  | windowCounts hp hc _ _ hw => exact .inr (.inr (.inl ⟨hp, hc, countdown_pred_succ hw⟩))
  | responds hp hc => exact .inr (.inr (.inr ⟨hp, hc, rfl, by simp⟩))
  | _ => exact .inl rfl

/-- Settles O54: only the Sampler part writes a countdown. -/
theorem countdownsLoadHoldOrDecrement : Obligations.CountdownsLoadHoldOrDecrement := by
  unfold Obligations.CountdownsLoadHoldOrDecrement
  intro s t hr h
  obtain ⟨hr', _⟩ | ⟨_, b, hb, rfl⟩ := step_cases h
  · simp [hr] at hr'
  · have hguard := sampler_guard (by simp) hb
    have hdly := sampler_dly hb
    have hwin := sampler_win hb
    have hcfg : s.beginTick.dispatched.cfg = s.cfg := by simp
    simp only [dispatched_guard, dispatched_dly, dispatched_win, beginTick_guard, beginTick_dly,
      beginTick_win] at hguard hdly hwin
    rw [hcfg] at hguard hdly hwin
    simpa using ⟨hguard, hdly, hwin⟩

end Sys2Proof.Machine
end

section
/-! Two runs compared (R102): each part of a tick takes states that agree on the Sampler's side to states that agree. -/

namespace Sys2Proof.Machine

/-- Two states that agree on the Sampler's side differ in the other fields only (R12). -/
theorem SamplerAgrees.eq_update {a c : State} (h : SamplerAgrees a c) :
    ∃ q lastSeen lastValid outValid outWord outThrottle outTlm outCrcRx outCrcExp outCrcOk qOvf stim now tap frame
      events,
      c = { a with
        q, lastSeen, lastValid, outValid, outWord, outThrottle, outTlm, outCrcRx, outCrcExp, outCrcOk, qOvf, stim, now,
        tap, frame, events } := by
  obtain ⟨hcfg, hst, hcph, hguard, hdly, hwin, hsr, hcnt⟩ := h
  cases a; cases c
  cases hcfg; cases hst; cases hcph; cases hsr; cases hcnt
  cases BitVec.eq_of_toNat_eq hguard; cases BitVec.eq_of_toNat_eq hdly; cases BitVec.eq_of_toNat_eq hwin
  exact ⟨_, _, _, _, _, _, _, _, _, _, _, _, _, _, _, _, rfl⟩

/-- The Sampler operations read the Sampler's side and the line, and write the same on both sides. -/
theorem SamplerMove.agrees {p a b c : State} (h : SamplerMove p a b) (hac : SamplerAgrees a c) (hl : a.line = c.line)
    (ht : a.tap = c.tap) : ∃ d, SamplerMove p c d ∧ SamplerAgrees b d ∧ b.tap = d.tap := by
  obtain ⟨_, _, _, _, _, _, _, _, _, _, _, _, _, _, _, _, rfl⟩ := hac.eq_update
  cases h with
  | huntHolds hp h1 => exact ⟨_, .huntHolds hp (hl ▸ h1), hac, ht⟩
  | guardLoads hp h1 => exact ⟨_, .guardLoads hp (hl ▸ h1), ⟨rfl, rfl, rfl, rfl, rfl, rfl, rfl, rfl⟩, ht⟩
  | rises hp h1 => exact ⟨_, .rises hp (hl ▸ h1), ⟨rfl, rfl, rfl, rfl, rfl, rfl, rfl, rfl⟩, ht⟩
  | guardExpires hp h1 hg => exact ⟨_, .guardExpires hp (hl ▸ h1) hg, ⟨rfl, rfl, rfl, rfl, rfl, rfl, rfl, rfl⟩, rfl⟩
  | guardCounts hp h1 hg => exact ⟨_, .guardCounts hp (hl ▸ h1) hg, ⟨rfl, rfl, rfl, rfl, rfl, rfl, rfl, rfl⟩, ht⟩
  | fallHolds hp h1 => exact ⟨_, .fallHolds hp (hl ▸ h1), hac, ht⟩
  | falls hp h1 => exact ⟨_, .falls hp (hl ▸ h1), ⟨rfl, rfl, rfl, rfl, rfl, rfl, rfl, rfl⟩, ht⟩
  | delayCounts hp hd => exact ⟨_, .delayCounts hp hd, ⟨rfl, rfl, rfl, rfl, rfl, rfl, rfl, rfl⟩, ht⟩
  | samples hp hd =>
    exact ⟨_, .samples hp hd, ⟨rfl, rfl, rfl, rfl, rfl, rfl, rfl, rfl⟩, by rw [emit_tap, emit_tap, hl]⟩
  | captureFalls hp hc hb h1 =>
    exact ⟨_, .captureFalls hp hc hb (hl ▸ h1), ⟨rfl, rfl, rfl, rfl, rfl, rfl, rfl, rfl⟩, ht⟩
  | captureRises hp hc hb h1 =>
    exact ⟨_, .captureRises hp hc hb (hl ▸ h1), ⟨rfl, rfl, rfl, rfl, rfl, rfl, rfl, rfl⟩, ht⟩
  | windowExpires hp hc hb h1 hw =>
    exact ⟨_, .windowExpires hp hc hb (hl ▸ h1) hw, ⟨rfl, rfl, rfl, rfl, rfl, rfl, rfl, rfl⟩, rfl⟩
  | windowCounts hp hc hb h1 hw =>
    exact ⟨_, .windowCounts hp hc hb (hl ▸ h1) hw, ⟨rfl, rfl, rfl, rfl, rfl, rfl, rfl, rfl⟩, ht⟩
  | responseCounts hp hc hb hd =>
    exact ⟨_, .responseCounts hp hc hb hd, ⟨rfl, rfl, rfl, rfl, rfl, rfl, rfl, rfl⟩, ht⟩
  | responds hp hc hb hd =>
    exact ⟨_, .responds hp hc hb hd, ⟨rfl, rfl, rfl, rfl, rfl, rfl, rfl, rfl⟩, by rw [emit_tap, emit_tap, hl]⟩

/-- The operation of a position depends on the position alone. -/
theorem SamplerMove.of_position {p p' a b : State} (h : SamplerMove p a b) (hst : p.st = p'.st)
    (hcph : p.cph = p'.cph) : SamplerMove p' a b := by
  have hi : p.samplerInstr = p'.samplerInstr := by simp only [State.samplerInstr, hst, hcph]
  exact sampler_move (hi ▸ h.exec_eq)

/-- The shifted word and the count after a data push, whatever the queue holds (R79, R80). -/
theorem pushBit_sr_cnt (s : State) (v : Bool) :
    (s.pushBit v).sr = shiftIn s.sr v ∧ (s.pushBit v).cnt = s.cnt + 1#4 := by
  rcases pushBit_cases s v with ⟨_, e⟩ | ⟨hc, _, e⟩ | ⟨_, _, hc, _, _, e⟩ <;> rw [e]
  · exact ⟨rfl, rfl⟩
  · exact ⟨rfl, by rw [hc]; rfl⟩
  · exact ⟨rfl, by rw [hc]; rfl⟩

/-- The Assembler part shifts and counts the same on both sides, whatever the queues hold. -/
theorem SamplerAgrees.assembled {b d : State} (h : SamplerAgrees b d) (ht : b.tap = d.tap) :
    SamplerAgrees b.assembled d.assembled := by
  have hword : b.assembled.sr = d.assembled.sr ∧ b.assembled.cnt = d.assembled.cnt := by
    rcases assembled_cases b with ⟨hb, eb⟩ | ⟨v, src, hb, eb⟩ | ⟨src, hb, eb⟩
    · rw [eb, assembled_of_no_cell (ht ▸ hb)]
      exact ⟨h.sr, h.cnt⟩
    · rw [eb, assembled_of_data (ht ▸ hb)]
      obtain ⟨hbs, hbc⟩ := pushBit_sr_cnt b v
      obtain ⟨hds, hdc⟩ := pushBit_sr_cnt d v
      rw [hbs, hbc, hds, hdc, h.sr, h.cnt]
      exact ⟨rfl, rfl⟩
    · rw [eb, assembled_of_reset (ht ▸ hb)]
      exact ⟨rfl, rfl⟩
  exact ⟨by simpa using h.cfg, by simpa using h.st, by simpa using h.cph, by simpa using h.guard, by simpa using h.dly,
    by simpa using h.win, hword.1, hword.2⟩

/-- A reset tick brings both sides of one build to the same registers. -/
theorem samplerAgrees_resetRegs {s t : State} (h : s.cfg = t.cfg) : SamplerAgrees s.resetRegs t.resetRegs :=
  ⟨h, rfl, rfl, by simp, by simp, by simp, rfl, rfl⟩

/-- Settles O42: the Dispatch part leaves the Sampler's side alone, and the other two parts keep the agreement. -/
theorem samplerIgnoresDispatch : Obligations.SamplerIgnoresDispatch := by
  unfold Obligations.SamplerIgnoresDispatch
  intro s t s' hst hr hl h
  obtain ⟨hrs, rfl⟩ | ⟨hrs, b, hb, rfl⟩ := step_cases h
  · have hreset := samplerAgrees_resetRegs (s := s.beginTick) (t := t.beginTick) hst.cfg
    exact ⟨_, step_reset (hr ▸ hrs), { hreset with }, rfl⟩
  · have hac : SamplerAgrees s.beginTick.dispatched t.beginTick.dispatched :=
      (samplerAgrees_dispatched s).symm.trans (hst.trans (samplerAgrees_dispatched t))
    have hline : s.beginTick.dispatched.line = t.beginTick.dispatched.line :=
      (beginTick_dispatched_line s).trans (hl.trans (beginTick_dispatched_line t).symm)
    obtain ⟨d, hd, hbd, htap⟩ := (sampler_move hb).agrees hac hline (by simp)
    refine ⟨_, step_of_move (hr ▸ hrs) (hd.of_position hst.st hst.cph), { hbd.assembled htap with }, ?_⟩
    simpa using htap

end Sys2Proof.Machine
end

section
/-! The queue and the events of a tick (R35 to R39, R84 a, R100, R103), part by part. -/

namespace Sys2Proof.Machine

/-! ### The words of a list of events -/

@[simp] theorem enqueued_append (es fs : List Event) : enqueued (es ++ fs) = enqueued es ++ enqueued fs := by
  induction es with
  | nil => rfl
  | cons e es ih => cases e <;> simp [enqueued, ih]

@[simp] theorem departed_append (es fs : List Event) : departed (es ++ fs) = departed es ++ departed fs := by
  induction es with
  | nil => rfl
  | cons e es ih => cases e <;> simp [departed, ih]

/-! ### The parts of a tick -/

/-- The balance of R39: what was in the queue and what was enqueued is what left it and what is in it. -/
def State.Balances (s : State) (before : List Word) : Prop :=
  before ++ enqueued s.events = departed s.events ++ s.q

theorem balances_dispatched (s : State) : s.beginTick.dispatched.Balances s.q := by
  unfold State.Balances
  cases hp : s.pins.poll with
  | false => rw [dispatched_idle (s := s.beginTick) hp]; exact List.append_nil _
  | true =>
    cases hq : s.q with
    | nil => rw [dispatched_pollEmpty (s := s.beginTick) hp hq]; simp [hq, enqueued, departed]
    | cons w rest =>
      by_cases hx : s.lastValid = true ∧ w = s.lastSeen
      · rw [dispatched_duplicate (s := s.beginTick) hp hq hx]; simp [enqueued, departed]
      · rw [dispatched_forward (s := s.beginTick) hp hq hx]; simp [enqueued, departed]

/-- The Sampler part touches neither the queue nor the words of the event list. -/
theorem sampler_queue {p a b : State} (h : exec p.samplerInstr a = .next b) :
    b.q = a.q ∧ enqueued b.events = enqueued a.events ∧ departed b.events = departed a.events := by
  cases sampler_move h <;> simp [enqueued, departed]

theorem State.Balances.assembled {s : State} {before : List Word} (h : s.Balances before) :
    s.assembled.Balances before := by
  unfold State.Balances at h ⊢
  rcases assembled_queue s with ⟨eq, _, ee⟩ | ⟨v, src, _, _, _, _, eq, _, ee⟩ |
    ⟨v, src, x, rest, _, _, _, hx, _, eq, _, ee⟩ <;> rw [eq, ee]
  · exact h
  · simp only [enqueued_append, departed_append, enqueued, departed]
    rw [← List.append_assoc, h]
    simp
  · simp only [enqueued_append, departed_append, enqueued, departed]
    rw [← List.append_assoc, h, hx]
    simp

theorem step_balances {s t : State} (hr : s.pins.rst = false) (h : step s = .next t) : t.Balances s.q := by
  obtain ⟨hr', _⟩ | ⟨_, b, hb, rfl⟩ := step_cases h
  · simp [hr] at hr'
  · obtain ⟨hq, he, hd⟩ := sampler_queue hb
    have hbal : b.Balances s.q := by
      have ha := balances_dispatched s
      unfold State.Balances at ha ⊢
      rw [hq, he, hd, ha]
    exact hbal.assembled

/-- After a step the pins that are no reset pins are one fewer. -/
theorem State.NoReset.step {s t : State} {n : Nat} (hs : s.NoReset (n + 1)) (h : step s = .next t) : t.NoReset n :=
  fun k hk => by rw [step_pinsAt h]; exact hs (k + 1) (by omega)

theorem State.NoReset.rst {s : State} {n : Nat} (hs : s.NoReset (n + 1)) : s.pins.rst = false := hs 0 (by omega)

theorem runLog_succ {k : Nat} {s u : State} {es : List Event} (h : runLog (k + 1) s = some (es, u)) :
    ∃ t fs, step s = .next t ∧ runLog k t = some (fs, u) ∧ es = t.events ++ fs := by
  rw [runLog] at h
  cases hs : step s with
  | next t =>
    obtain ⟨⟨fs, v⟩, hf, hp⟩ := Option.map_eq_some_iff.1 (by simpa only [hs] using h)
    cases hp
    exact ⟨t, fs, rfl, hf, rfl⟩
  | fault r => simp [hs] at h
  | refused r => simp [hs] at h

/-- Settles O21: the balance of one tick, by induction on the number of ticks. -/
theorem queueIsFirstInFirstOut : Obligations.QueueIsFirstInFirstOut := by
  unfold Obligations.QueueIsFirstInFirstOut
  intro k
  induction k with
  | zero =>
    intro s t es _ h
    cases h
    exact List.append_nil _
  | succ k ih =>
    intro s u es hs h
    obtain ⟨t, fs, ht, hf, rfl⟩ := runLog_succ h
    have hstep : s.q ++ enqueued t.events = departed t.events ++ t.q := step_balances hs.rst ht
    calc s.q ++ enqueued (t.events ++ fs)
        = (s.q ++ enqueued t.events) ++ enqueued fs := by simp
      _ = departed t.events ++ (t.q ++ enqueued fs) := by rw [hstep, List.append_assoc]
      _ = departed (t.events ++ fs) ++ u.q := by rw [ih t u fs (hs.step ht) hf]; simp

/-! ### The order of the events (R111) -/

/-- Events in the trace order, none before the place `lo` or after the place `hi`. -/
def RanksBetween (lo hi : Nat) (es : List Event) : Prop :=
  (es.map Event.rank).Pairwise (· < ·) ∧ ∀ e ∈ es, lo ≤ e.rank ∧ e.rank ≤ hi

theorem RanksBetween.append {lo m n hi : Nat} {es fs : List Event} (he : RanksBetween lo m es)
    (hf : RanksBetween n hi fs) (hlo : lo ≤ n) (hmn : m < n) (hhi : m ≤ hi) : RanksBetween lo hi (es ++ fs) := by
  obtain ⟨hep, heb⟩ := he
  obtain ⟨hfp, hfb⟩ := hf
  refine ⟨?_, fun e hm => ?_⟩
  · rw [List.map_append, List.pairwise_append]
    refine ⟨hep, hfp, fun x hx y hy => ?_⟩
    obtain ⟨e, hem, rfl⟩ := List.mem_map.1 hx
    obtain ⟨f, hfm, rfl⟩ := List.mem_map.1 hy
    have h1 := heb e hem
    have h2 := hfb f hfm
    omega
  · rcases List.mem_append.1 hm with h | h
    · have := heb e h
      omega
    · have := hfb e h
      omega

theorem ranksBetween_nil (lo hi : Nat) : RanksBetween lo hi [] := ⟨.nil, by simp⟩

/-- An event whose place lies outside the bounds does not occur. -/
theorem RanksBetween.not_mem {lo hi : Nat} {es : List Event} (h : RanksBetween lo hi es) {e : Event}
    (he : e.rank < lo ∨ hi < e.rank) : e ∉ es := fun hm => by
  have := h.2 e hm
  omega

/-- The Dispatch part raises at most one event, of the first place. -/
theorem dispatched_ranks (s : State) : RanksBetween 0 0 s.beginTick.dispatched.events := by
  rcases dispatched_cases s with ⟨_, he | ⟨w, he, _⟩, _⟩ | ⟨w, _, _, _, _, _, he⟩ <;> rw [he]
  · exact ranksBetween_nil 0 0
  · simp [RanksBetween, Event.rank]
  · simp [RanksBetween, Event.rank]

/-- The Sampler part adds a cell and perhaps the expiry. -/
theorem sampler_events_append {p a b : State} (h : exec p.samplerInstr a = .next b) :
    ∃ es, b.events = a.events ++ es ∧ RanksBetween 1 2 es := by
  cases sampler_move h with
  | guardExpires => exact ⟨[_], rfl, by simp [RanksBetween, Event.rank]⟩
  | samples => exact ⟨[_], rfl, by simp [RanksBetween, Event.rank]⟩
  | windowExpires => exact ⟨[_, _], List.append_assoc _ _ _, by simp [RanksBetween, Event.rank]⟩
  | responds => exact ⟨[_], rfl, by simp [RanksBetween, Event.rank]⟩
  | _ => exact ⟨[], (List.append_nil _).symm, ranksBetween_nil 1 2⟩

/-- The Assembler part adds an enqueue and perhaps the overflow. -/
theorem assembled_events_append (s : State) : ∃ es, s.assembled.events = s.events ++ es ∧ RanksBetween 3 4 es := by
  rcases assembled_queue s with ⟨_, _, he⟩ | ⟨_, _, _, _, _, _, _, _, he⟩ | ⟨_, _, _, _, _, _, _, _, _, _, _, he⟩
  · exact ⟨[], by simpa using he, ranksBetween_nil 3 4⟩
  · exact ⟨_, he, by simp [RanksBetween, Event.rank]⟩
  · exact ⟨_, he, by simp [RanksBetween, Event.rank]⟩

/-- Before the Assembler part the list holds no event of the queue's tail. -/
theorem sampler_ranks {s b : State} (h : exec s.samplerInstr s.beginTick.dispatched = .next b) :
    RanksBetween 0 2 b.events := by
  obtain ⟨es, he, hes⟩ := sampler_events_append h
  exact he ▸ (dispatched_ranks s).append hes (by decide) (by decide) (by decide)

/-- Settles O44: the three parts of a tick raise events of rising places. -/
theorem eventsStandInTraceOrder : Obligations.EventsStandInTraceOrder := by
  unfold Obligations.EventsStandInTraceOrder
  intro s t h
  obtain ⟨_, rfl⟩ | ⟨_, b, hb, rfl⟩ := step_cases h
  · exact .nil
  · obtain ⟨es, he, hes⟩ := assembled_events_append b
    have hall := (sampler_ranks hb).append hes (by decide) (by decide) (by decide)
    rw [← he] at hall
    exact hall.1

/-! ### What Dispatch did in a tick (R23, R100) -/

/-- Only the Dispatch part raises a Forward. -/
theorem step_forward_mem_iff {s t : State} (hr : s.pins.rst = false) (h : step s = .next t) (w : Word)
    (d : DecodedFrame) : Event.forward w d ∈ t.events ↔ Event.forward w d ∈ s.beginTick.dispatched.events := by
  obtain ⟨hr', _⟩ | ⟨_, b, hb, rfl⟩ := step_cases h
  · simp [hr] at hr'
  · obtain ⟨es, he, hes⟩ := sampler_events_append hb
    obtain ⟨fs, hf, hfs⟩ := assembled_events_append b
    have h1 : Event.forward w d ∉ es := hes.not_mem (.inl (by simp [Event.rank]))
    have h2 : Event.forward w d ∉ fs := hfs.not_mem (.inl (by simp [Event.rank]))
    simp [hf, he, h1, h2]

/-- Settles O30: Last-Seen is the Dispatch part's, and the Dispatch part changes it by a forward of the head. -/
theorem lastSeenChangesOnlyOnForward : Obligations.LastSeenChangesOnlyOnForward := by
  unfold Obligations.LastSeenChangesOnlyOnForward
  intro s t hr h
  have hd := step_dispatchAgrees hr h
  rw [← hd.lastSeen, ← hd.lastValid]
  rcases dispatched_cases s with ⟨_, _, hseen, hvalid⟩ | ⟨w, hq, hp, _, hseen, hvalid, he⟩
  · exact .inl ⟨hseen, hvalid⟩
  · refine .inr ⟨hvalid, ?_, by rw [hseen, hq], hp⟩
    rw [step_forward_mem_iff hr h, he, hseen]
    exact List.mem_singleton_self _

theorem dispatched_outValid_iff (s : State) :
    s.beginTick.dispatched.outValid = true ↔ ∃ w d, Event.forward w d ∈ s.beginTick.dispatched.events := by
  rcases dispatched_cases s with ⟨hov, he | ⟨w, he, _⟩, _⟩ | ⟨w, _, _, hov, _, _, he⟩ <;> simp [hov, he]

/-- The Assembler part raises the overflow strobe together with its event (R35). -/
theorem assembled_qOvf_iff {s : State} (hq : s.qOvf = false) (he : ∀ w, Event.overflow w ∉ s.events) :
    s.assembled.qOvf = true ↔ ∃ w, Event.overflow w ∈ s.assembled.events := by
  rcases assembled_queue s with ⟨_, ho, hev⟩ | ⟨_, _, _, _, _, _, _, ho, hev⟩ |
    ⟨_, _, _, _, _, _, _, _, _, _, ho, hev⟩ <;> simp [ho, hev, hq, he]

/-- Settles O31: each strobe is raised in the part that raises its event, and in no other. -/
theorem strobesReportForwardAndOverflow : Obligations.StrobesReportForwardAndOverflow := by
  unfold Obligations.StrobesReportForwardAndOverflow
  intro s t h
  cases hr : s.pins.rst with
  | true =>
    rw [step_reset hr] at h
    cases h
    simp
  | false =>
    refine ⟨?_, ?_⟩
    · simp only [← (step_dispatchAgrees hr h).outValid, step_forward_mem_iff hr h]
      exact dispatched_outValid_iff s
    · obtain ⟨hr', _⟩ | ⟨_, b, hb, rfl⟩ := step_cases h
      · simp [hr] at hr'
      · obtain ⟨_, _, hovf, _⟩ := sampler_frame hb (by simp)
        have hnone (w : Word) : Event.overflow w ∉ b.events := (sampler_ranks hb).not_mem (.inr (by simp [Event.rank]))
        exact assembled_qOvf_iff (by simpa using hovf) hnone

/-! ### What the Assembler did to the queue in a tick (R35, R38, R84 a) -/

/-- The queue that the pop of a tick leaves (R36, R38). -/
def State.queueAfterPop (s : State) : List Word := if s.pins.poll then s.q.tail else s.q

/-- After a tick without reset: nothing was enqueued and the popped queue stands; or the shifted word was enqueued, into
a free place or with the oldest word lost (R35, R38, R83). -/
theorem step_queue {s t : State} (hr : s.pins.rst = false) (h : step s = .next t) :
    ((∀ w, Event.enqueue w ∉ t.events) ∧ t.q = s.queueAfterPop ∧ t.qOvf = false) ∨
    ∃ v src w, w = shiftIn s.sr v ∧ t.tap = some ⟨dataCell v, src⟩ ∧ s.cnt = 15#4 ∧ t.cnt = 0#4 ∧
      (∀ x, Event.enqueue x ∈ t.events ↔ x = w) ∧
      (((s.queueAfterPop.length < s.cfg.qdepth ∨ s.queueAfterPop = []) ∧
          t.q = s.queueAfterPop ++ [w] ∧ t.qOvf = false) ∨
        ∃ x rest, s.queueAfterPop = x :: rest ∧ s.cfg.qdepth ≤ rest.length + 1 ∧
          t.q = rest ++ [w] ∧ t.qOvf = true ∧ Event.overflow x ∈ t.events) := by
  obtain ⟨hr', _⟩ | ⟨_, b, hb, rfl⟩ := step_cases h
  · simp [hr] at hr'
  · obtain ⟨hbq, hbcfg, hbovf, hbsr, hbcnt, _⟩ := sampler_frame hb (by simp)
    have hq : b.q = s.queueAfterPop := hbq.trans (dispatched_q s.beginTick)
    have hcfg : b.cfg = s.cfg := by simpa using hbcfg
    have hsr : b.sr = s.sr := by simpa using hbsr
    have hcnt : b.cnt = s.cnt := by simpa using hbcnt
    have hnone (w : Word) : Event.enqueue w ∉ b.events := (sampler_ranks hb).not_mem (.inr (by simp [Event.rank]))
    rw [← hq, ← hcfg, ← hsr, ← hcnt]
    rcases assembled_queue b with ⟨eq, eo, ee⟩ | ⟨v, src, ht, hc, hc0, hroom, eq, eo, ee⟩ |
      ⟨v, src, x, rest, ht, hc, hc0, hx, hfull, eq, eo, ee⟩
    · refine .inl ⟨fun w => ?_, eq, ?_⟩
      · simpa [ee] using hnone w
      · simpa [eo] using hbovf
    · refine .inr ⟨v, src, _, rfl, by simpa using ht, hc, hc0, fun x => ?_, .inl ⟨hroom, eq, eo⟩⟩
      simp [ee, hnone]
    · refine .inr ⟨v, src, _, rfl, by simpa using ht, hc, hc0, fun y => ?_,
        .inr ⟨x, rest, hx, by simpa [hx] using hfull, eq, eo, ?_⟩⟩
      · simp [ee, hnone]
      · simp [ee]

/-- Settles O16: the enqueued word is the shifted one, and the newest of the queue with room or without. -/
theorem onlyFullWordsAreEnqueued : Obligations.OnlyFullWordsAreEnqueued := by
  unfold Obligations.OnlyFullWordsAreEnqueued
  intro s t w h hw
  cases hr : s.pins.rst with
  | true =>
    rw [step_reset hr] at h
    cases h
    simp at hw
  | false =>
    rcases step_queue hr h with ⟨hnone, _⟩ | ⟨v, src, x, hx, ht, hc, hc0, hmem, hqueue⟩
    · exact absurd hw (hnone w)
    · obtain rfl : w = x := (hmem w).1 hw
      refine ⟨hc, hc0, ?_, v, src, ht, by rw [hx, shiftIn_eq]⟩
      rcases hqueue with ⟨_, eq, _⟩ | ⟨_, _, _, _, eq, _⟩ <;> simp [eq]

/-- Settles O20: with a capacity of at least one an empty queue has room. -/
theorem tickPopsThenPushes : Obligations.TickPopsThenPushes := by
  unfold Obligations.TickPopsThenPushes
  intro s t hcap hr h
  rcases step_queue hr h with hnone | ⟨_, _, w, _, _, _, _, hmem, ⟨hroom, eq, eo⟩ | hfull⟩
  · exact .inl hnone
  · refine .inr ⟨w, (hmem w).2 rfl, .inl ⟨?_, eq, eo⟩⟩
    change s.queueAfterPop.length < s.cfg.qdepth
    rcases hroom with hlt | hnil
    · exact hlt
    · rw [hnil]
      exact hcap
  · exact .inr ⟨w, (hmem w).2 rfl, .inr hfull⟩

/-! ### Pushes in a row (R133) and a word popped twice (R101) -/

theorem qPush_cfg (s : State) (w : Word) : (s.qPush w).cfg = s.cfg := by
  rcases qPush_cases s w with ⟨e, _⟩ | ⟨_, _, _, _, e⟩ <;> rw [e]

/-- A push keeps the newest `QDEPTH` words. -/
theorem qPush_q {s : State} (w : Word) (hcap : 1 ≤ s.cfg.qdepth) (hq : s.q.length ≤ s.cfg.qdepth) :
    (s.qPush w).q = (s.q ++ [w]).drop (s.q.length + 1 - s.cfg.qdepth) := by
  rcases qPush_cases s w with ⟨e, hroom⟩ | ⟨x, rest, hx, hfull, e⟩ <;> rw [e]
  · have hlen : s.q.length + 1 - s.cfg.qdepth = 0 := by
      rcases hroom with hlt | hnil
      · omega
      · simp [hnil, hcap]
    rw [hlen, List.drop_zero]
  · have hlen : s.q.length + 1 - s.cfg.qdepth = 1 := by omega
    rw [hlen, hx, List.cons_append, List.drop_one, List.tail_cons]

/-- Settles O19: by induction on the words; what one push drops is part of what all of them drop. -/
theorem queueKeepsNewestWords : Obligations.QueueKeepsNewestWords := by
  unfold Obligations.QueueKeepsNewestWords
  intro s ws hcap
  induction ws generalizing s with
  | nil =>
    intro hq
    simp [Nat.sub_eq_zero_of_le hq]
  | cons w ws ih =>
    intro hq
    have hpush := qPush_q w hcap hq
    have hlen : (s.qPush w).q.length ≤ (s.qPush w).cfg.qdepth := by
      rw [hpush, qPush_cfg, List.length_drop, List.length_append, List.length_singleton]
      omega
    rw [List.foldl_cons, ih (s.qPush w) (by rwa [qPush_cfg]) hlen, qPush_cfg, hpush,
      ← List.drop_append_of_le_length (by simp), List.drop_drop, List.append_assoc, List.singleton_append]
    congr 1
    simp
    omega

/-- Settles O29: after either branch the popped word is the last accepted one, so the second pop drops it. -/
theorem repeatedWordIsForwardedOnce : Obligations.RepeatedWordIsForwardedOnce := by
  unfold Obligations.RepeatedWordIsForwardedOnce
  intro s w rest hq
  by_cases hx : s.lastValid = true ∧ w = s.lastSeen
  · have second := exec_dispPop_duplicate (s := ({ s with q := w :: rest } : State).dropDuplicate w) rfl hx
    exact ⟨_, _, exec_dispPop_duplicate hq hx, second, rfl, hx.1, hx.2.symm, rfl, rfl,
      fun hn => absurd ⟨hx.1, hx.2.symm⟩ hn, fun _ => ⟨rfl, rfl⟩⟩
  · have second := exec_dispPop_duplicate (s := ({ s with q := w :: rest } : State).forward w) rfl ⟨rfl, rfl⟩
    exact ⟨_, _, exec_dispPop_forward hq hx, second, rfl, rfl, rfl, rfl, rfl,
      fun _ => ⟨rfl, rfl⟩, fun hd => absurd ⟨hd.1, hd.2.symm⟩ hx⟩

end Sys2Proof.Machine
end

section
/-! The frame code (R94, R95): `ENCODE` against `DECODE`, and what the checksum says of flipped bits. -/

namespace Sys2Proof.Machine

/-! ### `ENCODE` and `DECODE` (R94) -/

theorem field_append_telemetry (t : Field) : t.extractLsb' 1 11 ++ BitVec.ofBool (t.getLsbD 0) = t := by
  have hbit : BitVec.ofBool (t.getLsbD 0) = t.extractLsb' 0 1 := by ext i hi; simp [show i = 0 by omega]
  rw [hbit]
  exact BitVec.extractLsb'_append_extractLsb' (w := 11) (len := 1)

theorem throttle_of_field (th : Throttle) (tm : Bool) : (th ++ BitVec.ofBool tm : Field).extractLsb' 1 11 = th :=
  BitVec.extractLsb'_append_eq_left

theorem telemetry_of_field (th : Throttle) (tm : Bool) : (th ++ BitVec.ofBool tm : Field).getLsbD 0 = tm := by
  rw [BitVec.getLsbD_append]
  simp

theorem decodeFrame_encodeFrame (th : Throttle) (tm : Bool) :
    decodeFrame (encodeFrame th tm) =
      { throttle := th
        telemetryRequest := tm
        checksumReceived := checksumExpected (encodeFrame th tm)
        checksumExpected := checksumExpected (encodeFrame th tm)
        checksumOk := true } := by
  obtain ⟨hfield, hok⟩ := (passes_with_field_iff (th ++ BitVec.ofBool tm) (encodeFrame th tm)).2 rfl
  have hreceived := (checksumOk_iff _).1 hok
  rw [decodeFrame, throttleOf, telemetryRequest, hfield, throttle_of_field, telemetry_of_field, hreceived, hok]

/-- A passing word is the encoding of its own fields. -/
theorem encodeFrame_decodeFrame {w : Word} (h : checksumOk w = true) :
    encodeFrame (throttleOf w) (telemetryRequest w) = w := by
  rw [encodeFrame, throttleOf, telemetryRequest, field_append_telemetry]
  exact ((passes_with_field_iff _ w).1 ⟨rfl, h⟩).symm

/-- Settles O24: the passing word of a field is the field with its own checksum. -/
theorem frameEncodeDecodeRoundTrip : Obligations.FrameEncodeDecodeRoundTrip := by
  unfold Obligations.FrameEncodeDecodeRoundTrip
  exact ⟨decodeFrame_encodeFrame, fun w => encodeFrame_decodeFrame⟩

/-! ### Flipped bits (R95) -/

/-- The four nibbles of a word folded; the checksum passes where this is `0xF` (R89). -/
def nibbleXor (w : Word) : Nibble :=
  w.extractLsb' 0 4 ^^^ w.extractLsb' 4 4 ^^^ w.extractLsb' 8 4 ^^^ w.extractLsb' 12 4

theorem checksumOk_iff_nibbleXor (w : Word) : checksumOk w = true ↔ nibbleXor w = 0xF#4 :=
  checksumOk_iff_xor_nibbles w

theorem nibbleXor_xor (x y : Word) : nibbleXor (x ^^^ y) = nibbleXor x ^^^ nibbleXor y := by
  simp only [nibbleXor, BitVec.extractLsb'_xor]
  ac_rfl

/-- The fold sees the position of a bit modulo 4. -/
theorem nibbleXor_bit : ∀ i < 16, nibbleXor (1#16 <<< i) = 1#4 <<< (i % 4) := by decide

theorem nibble_bit_ne_zero : ∀ k < 4, 1#4 <<< k ≠ 0#4 := by decide

/-- Settles O25: the fold is linear, one flipped bit shows in it, and two at positions equal modulo 4 cancel. -/
theorem singleBitErrorsAreDetected : Obligations.SingleBitErrorsAreDetected := by
  unfold Obligations.SingleBitErrorsAreDetected
  refine ⟨fun w i hi hok => ?_, fun w i j hi hj hij => ?_⟩
  · rw [← Bool.not_eq_true, checksumOk_iff_nibbleXor, nibbleXor_xor, (checksumOk_iff_nibbleXor w).1 hok,
      nibbleXor_bit i hi]
    intro h
    exact nibble_bit_ne_zero (i % 4) (Nat.mod_lt _ (by decide)) (by simpa using h)
  · rw [Bool.eq_iff_iff, checksumOk_iff_nibbleXor, checksumOk_iff_nibbleXor, nibbleXor_xor, nibbleXor_xor,
      nibbleXor_bit i hi, nibbleXor_bit j hj, hij, BitVec.xor_assoc, BitVec.xor_self, BitVec.xor_zero]

end Sys2Proof.Machine
end

section
/-! The Assembler on streams of cells (R84 b, c): what a run of data pushes makes of the in-progress word. -/

namespace Sys2Proof.Machine

/-! ### The word of a list of bits (R54, R79) -/

/-- The in-progress word after a list of data bits. -/
def shiftAll (x : Word) (bs : List Bool) : Word := bs.foldl shiftIn x

@[simp] theorem shiftAll_cons (x : Word) (b : Bool) (bs : List Bool) :
    shiftAll x (b :: bs) = shiftAll (shiftIn x b) bs := rfl

theorem shiftAll_append (x : Word) (bs cs : List Bool) : shiftAll x (bs ++ cs) = shiftAll (shiftAll x bs) cs :=
  List.foldl_append

theorem shiftIn_toNat (x : Word) (b : Bool) : (shiftIn x b).toNat = (2 * x.toNat + b.toNat) % 2 ^ 16 := by
  have hbit : (bitWord b).toNat = b.toNat := by cases b <;> rfl
  have hshift : (x <<< 1).toNat = (x.toNat % 2 ^ 15) <<< 1 := by
    rw [BitVec.toNat_shiftLeft, Nat.shiftLeft_eq, Nat.shiftLeft_eq]
    omega
  have hlt : b.toNat < 2 ^ 1 := Bool.toNat_lt b
  rw [shiftIn, BitVec.toNat_or, hbit, hshift, ← Nat.shiftLeft_add_eq_or_of_lt hlt, Nat.shiftLeft_eq]
  omega

/-- The number of a list of bits, the first one the most significant, with a number standing before them (R54). -/
def bitsAfter (n : Nat) (bs : List Bool) : Nat := bs.foldl (fun n b => 2 * n + b.toNat) n

theorem bitsAfter_cons (n : Nat) (b : Bool) (bs : List Bool) : bitsAfter n (b :: bs) = bitsAfter (2 * n + b.toNat) bs :=
  rfl

theorem wordOfBits_eq (bs : List Bool) : wordOfBits bs = BitVec.ofNat 16 (bitsAfter 0 bs) := rfl

theorem bitsAfter_eq_add (n : Nat) (bs : List Bool) : bitsAfter n bs = n * 2 ^ bs.length + bitsAfter 0 bs := by
  induction bs generalizing n with
  | nil => simp [bitsAfter]
  | cons b bs ih =>
    rw [bitsAfter_cons, bitsAfter_cons, ih, ih (2 * 0 + b.toNat), List.length_cons]
    ring

theorem shiftAll_toNat (x : Word) (bs : List Bool) : (shiftAll x bs).toNat = bitsAfter x.toNat bs % 2 ^ 16 := by
  induction bs generalizing x with
  | nil => exact (Nat.mod_eq_of_lt x.isLt).symm
  | cons b bs ih =>
    rw [shiftAll_cons, ih, shiftIn_toNat, bitsAfter_cons, bitsAfter_eq_add, bitsAfter_eq_add (2 * x.toNat + b.toNat),
      Nat.add_mod, Nat.mod_mul_mod, ← Nat.add_mod]

/-- Sixteen bits push every earlier one out, so the word is theirs alone. -/
theorem shiftAll_sixteen (x : Word) {bs : List Bool} (h : bs.length = 16) : shiftAll x bs = wordOfBits bs := by
  apply BitVec.eq_of_toNat_eq
  rw [shiftAll_toNat, bitsAfter_eq_add, h, wordOfBits_eq, BitVec.toNat_ofNat]
  omega

/-- The low `n` bits of a number, the most significant one first. -/
theorem bitsAfter_testBits (n x : Nat) :
    bitsAfter 0 ((List.range n).map fun i => x.testBit (n - 1 - i)) = x % 2 ^ n := by
  induction n generalizing x with
  | zero => simp [bitsAfter, Nat.mod_one]
  | succ n ih =>
    have hinit : ((List.range n).map fun i => x.testBit (n + 1 - 1 - i)) =
        (List.range n).map fun i => (x / 2).testBit (n - 1 - i) := by
      refine List.map_congr_left fun i hi => ?_
      have hlt : i < n := List.mem_range.1 hi
      rw [← Nat.testBit_succ]
      congr 1
      omega
    have hlast : (x.testBit 0).toNat = x % 2 := by
      rcases Nat.mod_two_eq_zero_or_one x with h | h <;> simp [h]
    have hfold : bitsAfter 0 ((List.range (n + 1)).map fun i => x.testBit (n + 1 - 1 - i)) =
        2 * bitsAfter 0 ((List.range n).map fun i => (x / 2).testBit (n - 1 - i)) + x % 2 := by
      rw [← hlast, List.range_succ, List.map_append, hinit, bitsAfter, List.foldl_append]
      simp [bitsAfter]
    rw [hfold, ih, Nat.pow_succ', Nat.mod_mul]
    omega

theorem wordOfBits_bitsOfWord (w : Word) : wordOfBits (bitsOfWord w) = w := by
  have hbits : bitsOfWord w = (List.range 16).map fun i => w.toNat.testBit (16 - 1 - i) := rfl
  rw [wordOfBits_eq, hbits, bitsAfter_testBits, Nat.mod_eq_of_lt w.isLt, BitVec.ofNat_toNat, BitVec.setWidth_eq]

theorem bitsOfWord_length (w : Word) : (bitsOfWord w).length = 16 := by simp [bitsOfWord]

/-! ### Runs of data pushes (R79 to R83) -/

theorem execAll_append (is js : List Instr) (s : State) :
    execAll (is ++ js) s = andThen (execAll is s) (execAll js) := by
  induction is generalizing s with
  | nil => rfl
  | cons i is ih =>
    rw [List.cons_append, execAll, execAll]
    cases exec i s with
    | next t => exact ih t
    | fault r => rfl
    | refused r => rfl

theorem execAll_dataPush_cons (b : Bool) (bs : List Bool) (s : State) :
    execAll ((b :: bs).map dataPush) s = execAll (bs.map dataPush) (s.pushBit b) := by
  rw [List.map_cons, execAll, exec_dataPush, andThen_next]

theorem execAll_dataPush_answers (bs : List Bool) (s : State) : ∃ t, execAll (bs.map dataPush) s = .next t := by
  induction bs generalizing s with
  | nil => exact ⟨s, rfl⟩
  | cons b bs ih => rw [execAll_dataPush_cons]; exact ih _

/-- Counting on from a count that is not the last one. -/
theorem cnt_succ_toNat {c : BitVec 4} (h : c.toNat < 15) : (c + 1#4).toNat = c.toNat + 1 := by
  rw [BitVec.toNat_add]
  exact Nat.mod_eq_of_lt (by simp; omega)

theorem cnt_ne_fifteen {c : BitVec 4} (h : c.toNat < 15) : c ≠ 15#4 := by
  rintro rfl
  exact absurd h (by decide)

/-- Data pushes that complete no word write the in-progress word and the count only. -/
theorem execAll_dataPush_partial (bs : List Bool) (s : State) (h : s.cnt.toNat + bs.length ≤ 15) :
    ∃ c : BitVec 4, c.toNat = s.cnt.toNat + bs.length ∧
      execAll (bs.map dataPush) s = .next { s with sr := shiftAll s.sr bs, cnt := c } := by
  induction bs generalizing s with
  | nil => exact ⟨s.cnt, rfl, rfl⟩
  | cons b bs ih =>
    rw [List.length_cons] at h
    have hlt : s.cnt.toNat < 15 := by omega
    obtain ⟨c, hc, he⟩ := ih { s with sr := shiftIn s.sr b, cnt := s.cnt + 1#4 }
      (by simp only [cnt_succ_toNat hlt]; omega)
    refine ⟨c, ?_, ?_⟩
    · simp only [cnt_succ_toNat hlt] at hc
      rw [hc, List.length_cons]
      omega
    · rw [execAll_dataPush_cons, pushBit_partial b (cnt_ne_fifteen hlt), he, shiftAll_cons]

/-- The sixteenth push enqueues the shifted word, with room or without. -/
theorem pushBit_completes {s : State} (v : Bool) (hc : s.cnt = 15#4) :
    (s.pushBit v).cnt = 0#4 ∧ enqueued (s.pushBit v).events = enqueued s.events ++ [shiftIn s.sr v] ∧
      Event.enqueue (shiftIn s.sr v) ∈ (s.pushBit v).events ∧ (s.pushBit v).q.getLast? = some (shiftIn s.sr v) := by
  rcases pushBit_cases s v with ⟨hn, _⟩ | ⟨_, _, e⟩ | ⟨x, rest, _, _, _, e⟩
  · exact absurd hc hn
  · rw [e]; simp [enqueued]
  · rw [e]; simp [enqueued]

/-- Sixteen data pushes from a word boundary enqueue the word of their bits. -/
theorem execAll_dataPush_sixteen {s : State} {bits : List Bool} (hc : s.cnt = 0#4) (hlen : bits.length = 16) :
    ∃ u, execAll (bits.map dataPush) s = .next u ∧ u.cnt = 0#4 ∧
      enqueued u.events = enqueued s.events ++ [wordOfBits bits] ∧ u.q.getLast? = some (wordOfBits bits) := by
  obtain rfl | ⟨init, b, rfl⟩ := List.eq_nil_or_concat bits
  · simp at hlen
  · rw [List.concat_eq_append] at hlen ⊢
    have hinit : init.length = 15 := by simpa using hlen
    obtain ⟨c, hc15, he⟩ := execAll_dataPush_partial init s (by simp [hc, hinit])
    obtain rfl : c = 15#4 := BitVec.eq_of_toNat_eq (by simp [hc15, hc, hinit])
    obtain ⟨hcnt, henq, _, hlast⟩ :=
      pushBit_completes (s := { s with sr := shiftAll s.sr init, cnt := 15#4 }) b rfl
    have hword : shiftIn (shiftAll s.sr init) b = wordOfBits (init ++ [b]) := by
      rw [← shiftAll_sixteen s.sr hlen, shiftAll_append]
      rfl
    rw [hword] at henq hlast
    refine ⟨_, ?_, hcnt, henq, hlast⟩
    rw [List.map_append, execAll_append, he, andThen_next]
    exact execAll_dataPush_cons b [] _

/-- Settles O17: the RESET cell brings a word boundary, and sixteen pushes from there make their own word. -/
theorem resetCellStartsFreshWord : Obligations.ResetCellStartsFreshWord := by
  unfold Obligations.ResetCellStartsFreshWord
  intro s before bits hlen
  obtain ⟨t, ht⟩ := execAll_dataPush_answers before s
  have hreset : execAll (before.map dataPush ++ [.pushReset]) s = .next t.discardWord := by
    rw [execAll_append, ht]
    rfl
  obtain ⟨u, hu⟩ := execAll_dataPush_sixteen (s := t.discardWord) rfl hlen
  exact ⟨_, u, hreset, rfl, hu⟩

/-! ### The cutting of a cell stream (R84 c) -/

theorem cutAtReset_eq_cons (cs : List Cell) : ∃ p ps, cutAtReset cs = p :: ps := by
  cases cs with
  | nil => exact ⟨_, _, rfl⟩
  | cons c cs =>
    cases c with
    | reset => exact ⟨_, _, rfl⟩
    | _ =>
      rw [cutAtReset]
      split <;> exact ⟨_, _, rfl⟩

/-- Data cells before a stream go to its first piece. -/
theorem cutAtReset_data_append {cs : List Cell} {p : List Bool} {ps : List (List Bool)} (h : cutAtReset cs = p :: ps)
    (bs : List Bool) : cutAtReset (bs.map dataCell ++ cs) = (bs ++ p) :: ps := by
  induction bs with
  | nil => exact h
  | cons b bs ih =>
    cases b with
    | false =>
      have hcut : cutAtReset (.zero :: (bs.map dataCell ++ cs)) = (false :: (bs ++ p)) :: ps := by rw [cutAtReset, ih]
      exact hcut
    | true =>
      have hcut : cutAtReset (.one :: (bs.map dataCell ++ cs)) = (true :: (bs ++ p)) :: ps := by rw [cutAtReset, ih]
      exact hcut

theorem groupsOf16_short {bs : List Bool} (h : bs.length < 16) : groupsOf16 bs = [] := by
  simp [groupsOf16, Nat.div_eq_of_lt h]

theorem groupsOf16_append {bs : List Bool} (h : bs.length = 16) (p : List Bool) :
    groupsOf16 (bs ++ p) = bs :: groupsOf16 p := by
  have hlen : (bs ++ p).length / 16 = p.length / 16 + 1 := by
    rw [List.length_append, h]
    omega
  rw [groupsOf16, hlen, List.range_succ_eq_map, List.map_cons, List.map_map, groupsOf16]
  congr 1
  · simp [← h]
  · refine List.map_congr_left fun i _ => ?_
    have hdrop : 16 * (i + 1) = bs.length + 16 * i := by omega
    rw [Function.comp_apply, hdrop, List.drop_length_add_append]

theorem wordsOfCells_short {bs : List Bool} (h : bs.length < 16) : wordsOfCells (bs.map dataCell) = [] := by
  have hcut := cutAtReset_data_append (cs := []) rfl bs
  rw [List.append_nil, List.append_nil] at hcut
  simp [wordsOfCells, hcut, groupsOf16_short h]

theorem wordsOfCells_short_reset {bs : List Bool} (h : bs.length < 16) (cs : List Cell) :
    wordsOfCells (bs.map dataCell ++ .reset :: cs) = wordsOfCells cs := by
  have hcut := cutAtReset_data_append (cs := .reset :: cs) rfl bs
  rw [List.append_nil] at hcut
  simp [wordsOfCells, hcut, groupsOf16_short h]

theorem wordsOfCells_sixteen {bs : List Bool} (h : bs.length = 16) (cs : List Cell) :
    wordsOfCells (bs.map dataCell ++ cs) = wordOfBits bs :: wordsOfCells cs := by
  obtain ⟨p, ps, hcs⟩ := cutAtReset_eq_cons cs
  simp [wordsOfCells, cutAtReset_data_append hcs bs, hcs, groupsOf16_append h]

/-! ### The Assembler on a cell stream (R84 c) -/

/-- The bits pushed since the last boundary are `p`. -/
structure State.Pending (s : State) (p : List Bool) : Prop where
  short : p.length < 16
  count : s.cnt.toNat = p.length
  word : ∃ x, s.sr = shiftAll x p

theorem pending_nil {s : State} (h : s.cnt = 0#4) : s.Pending [] := ⟨by decide, by simp [h], s.sr, rfl⟩

/-- A data push with fewer than fifteen bits pending. -/
theorem State.Pending.push {s : State} {p : List Bool} (h : s.Pending p) (v : Bool) (hp : p.length < 15) :
    (s.pushBit v).Pending (p ++ [v]) ∧ (s.pushBit v).events = s.events := by
  obtain ⟨_, hcount, x, hx⟩ := h
  have hlt : s.cnt.toNat < 15 := hcount ▸ hp
  rw [pushBit_partial v (cnt_ne_fifteen hlt)]
  refine ⟨⟨?_, ?_, x, ?_⟩, rfl⟩
  · simpa using Nat.succ_lt_succ hp
  · simp [cnt_succ_toNat hlt, hcount]
  · rw [shiftAll_append, ← hx]
    rfl

/-- The push that completes sixteen bits. -/
theorem State.Pending.complete {s : State} {p : List Bool} (h : s.Pending p) (v : Bool) (hp : p.length = 15) :
    (s.pushBit v).Pending [] ∧ enqueued (s.pushBit v).events = enqueued s.events ++ [wordOfBits (p ++ [v])] := by
  obtain ⟨_, hcount, x, hx⟩ := h
  have hc : s.cnt = 15#4 := BitVec.eq_of_toNat_eq (by simp [hcount, hp])
  obtain ⟨hcnt, henq, _⟩ := pushBit_completes v hc
  have hword : shiftIn s.sr v = wordOfBits (p ++ [v]) := by
    rw [← shiftAll_sixteen x (by simp [hp]), shiftAll_append, ← hx]
    rfl
  exact ⟨pending_nil hcnt, hword ▸ henq⟩

/-- The words enqueued from a partial word on are those of its bits followed by the stream. -/
theorem execAll_cells (cs : List Cell) {s : State} {p : List Bool} (h : s.Pending p) :
    ∃ t, execAll (cs.map pushOf) s = .next t ∧
      enqueued t.events = enqueued s.events ++ wordsOfCells (p.map dataCell ++ cs) := by
  induction cs generalizing s p with
  | nil => exact ⟨s, rfl, by simp [wordsOfCells_short h.short]⟩
  | cons c cs ih =>
    have data (v : Bool) (hc : exec (pushOf c) s = .next (s.pushBit v)) (hv : c = dataCell v) :
        ∃ t, execAll ((c :: cs).map pushOf) s = .next t ∧
          enqueued t.events = enqueued s.events ++ wordsOfCells (p.map dataCell ++ c :: cs) := by
      have hcells : p.map dataCell ++ c :: cs = (p ++ [v]).map dataCell ++ cs := by simp [hv]
      rw [List.map_cons, execAll, hc, andThen_next, hcells]
      rcases Nat.lt_or_ge p.length 15 with hp | hp
      · obtain ⟨hpend, hev⟩ := h.push v hp
        exact hev ▸ ih hpend
      · have hp15 : p.length = 15 := by have := h.short; omega
        obtain ⟨hpend, hev⟩ := h.complete v hp15
        obtain ⟨t, ht, henq⟩ := ih hpend
        refine ⟨t, ht, ?_⟩
        rw [henq, hev, wordsOfCells_sixteen (bs := p ++ [v]) (by simp [hp15])]
        simp
    cases c with
    | zero => exact data false rfl rfl
    | one => exact data true rfl rfl
    | reset =>
      obtain ⟨t, ht, henq⟩ := ih (pending_nil (s := s.discardWord) rfl)
      exact ⟨t, ht, by rw [henq, wordsOfCells_short_reset h.short]; rfl⟩

/-- Settles O18: from a word boundary on there is no partial word. -/
theorem assemblerCutsCellStream : Obligations.AssemblerCutsCellStream := by
  unfold Obligations.AssemblerCutsCellStream
  exact fun s cs hc => execAll_cells cs (pending_nil hc)

end Sys2Proof.Machine
end

section
/-! Runs of ticks that emit no cell, and what one tick does at each position: the steps the waveforms are made of. -/

namespace Sys2Proof.Machine

/-! ### Runs -/

theorem runTicks_succ {s t : State} (h : step s = .next t) (k : Nat) : runTicks (k + 1) s = runTicks k t := by
  have htick : tick s = .next t := h
  rw [runTicks, htick, andThen_next]

theorem runTicks_add {j : Nat} {s t : State} (h : runTicks j s = .next t) (k : Nat) :
    runTicks (j + k) s = runTicks k t := by
  induction j generalizing s with
  | zero =>
    cases h
    rw [Nat.zero_add]
  | succ j ih =>
    obtain ⟨r, hr, hj⟩ := andThen_eq_next.1 h
    rw [Nat.succ_add, runTicks_succ hr]
    exact ih hj

theorem runLog_of_step {s t : State} (h : step s = .next t) (k : Nat) :
    runLog (k + 1) s = (runLog k t).map fun p => (t.events ++ p.1, p.2) := by
  rw [runLog, h]

theorem runTicks_of_runLog {k : Nat} {s u : State} {es : List Event} (h : runLog k s = some (es, u)) :
    runTicks k s = .next u := by
  induction k generalizing s es with
  | zero => cases h; rfl
  | succ k ih =>
    obtain ⟨t, fs, ht, hf, _⟩ := runLog_succ h
    rw [runTicks_succ ht]
    exact ih hf

theorem runLog_add {j k : Nat} {s t u : State} {es fs : List Event} (h : runLog j s = some (es, t))
    (h' : runLog k t = some (fs, u)) : runLog (j + k) s = some (es ++ fs, u) := by
  induction j generalizing s es with
  | zero =>
    cases h
    rwa [Nat.zero_add]
  | succ j ih =>
    obtain ⟨r, gs, hr, hg, rfl⟩ := runLog_succ h
    rw [Nat.succ_add, runLog_of_step hr, ih hg]
    simp

/-- A run keeps the build and takes one set of pins a tick. -/
theorem runTicks_environment {k : Nat} {s t : State} (h : runTicks k s = .next t) :
    t.cfg = s.cfg ∧ t.stim = s.stim.drop k ∧ ∀ j, t.pinsAt j = s.pinsAt (k + j) := by
  induction k generalizing s with
  | zero =>
    cases h
    exact ⟨rfl, rfl, fun j => by rw [Nat.zero_add]⟩
  | succ k ih =>
    obtain ⟨r, hr, hk⟩ := andThen_eq_next.1 h
    obtain ⟨hcfg, hstim, hpins⟩ := ih hk
    obtain ⟨hcfg', hstim', _⟩ := step_environment hr
    refine ⟨hcfg.trans hcfg', ?_, fun j => ?_⟩
    · rw [hstim, hstim', List.drop_drop, Nat.add_comm]
    · rw [hpins, step_pinsAt hr]
      congr 1
      omega

/-! ### Quiet runs -/

/-- A tick without reset that emits no cell. -/
structure QuietStep (s t : State) : Prop where
  noReset : s.pins.rst = false
  next : step s = .next t
  noCell : t.tap = none

/-- `n` quiet ticks. -/
inductive QuietRun : Nat → State → State → Prop where
  | refl (s : State) : QuietRun 0 s s
  | cons {n : Nat} {s t u : State} (head : QuietStep s t) (tail : QuietRun n t u) : QuietRun (n + 1) s u

/-- Without a cell the Assembler part does nothing (R78). -/
theorem quietStep_of_move {s b : State} (hr : s.pins.rst = false) (h : SamplerMove s s.beginTick.dispatched b)
    (hb : b.tap = none) : QuietStep s b.endTick :=
  ⟨hr, by rw [step_of_move hr h, assembled_of_no_cell hb], hb⟩

theorem dispatched_enqueued (s : State) : enqueued s.beginTick.dispatched.events = [] := by
  rcases dispatched_cases s with ⟨_, he | ⟨_, he, _⟩, _⟩ | ⟨_, _, _, _, _, _, he⟩ <;> rw [he] <;> rfl

/-- A quiet tick keeps the in-progress word and enqueues nothing. -/
theorem QuietStep.keeps {s t : State} (h : QuietStep s t) :
    t.sr = s.sr ∧ t.cnt = s.cnt ∧ enqueued t.events = [] := by
  obtain ⟨hr', _⟩ | ⟨_, b, hb, rfl⟩ := step_cases h.next
  · simp [h.noReset] at hr'
  · have hcell : b.tap = none := by simpa using h.noCell
    obtain ⟨_, _, _, hsr, hcnt, _⟩ := sampler_frame hb (by simp)
    have henq := (sampler_queue hb).2.1
    rw [assembled_of_no_cell hcell]
    exact ⟨by simpa using hsr, by simpa using hcnt, by simpa [dispatched_enqueued] using henq⟩

section
variable {n m : Nat} {s t u : State}

theorem QuietStep.run (h : QuietStep s t) : QuietRun 1 s t := .cons h (.refl t)

theorem QuietRun.trans (h : QuietRun n s t) (h' : QuietRun m t u) : QuietRun (n + m) s u := by
  induction h with
  | refl s => rwa [Nat.zero_add]
  | cons head _ ih =>
    rw [Nat.succ_add]
    exact .cons head (ih h')

theorem QuietRun.runTicks (h : QuietRun n s t) : runTicks n s = .next t := by
  induction h with
  | refl s => rfl
  | cons head _ ih => rwa [runTicks_succ head.next]

theorem QuietRun.keeps (h : QuietRun n s t) : t.sr = s.sr ∧ t.cnt = s.cnt := by
  induction h with
  | refl s => exact ⟨rfl, rfl⟩
  | cons head _ ih => exact ⟨ih.1.trans head.keeps.1, ih.2.trans head.keeps.2.1⟩

theorem QuietRun.runLog (h : QuietRun n s t) : ∃ es, runLog n s = some (es, t) ∧ enqueued es = [] := by
  induction h with
  | refl s => exact ⟨[], rfl, rfl⟩
  | @cons n s t u head _ ih =>
    obtain ⟨es, hes, henq⟩ := ih
    exact ⟨t.events ++ es, by rw [runLog_of_step head.next, hes]; rfl, by simp [head.keeps.2.2, henq]⟩

theorem QuietRun.noCell (h : QuietRun n s t) (hn : 0 < n) : t.tap = none := by
  induction h with
  | refl s => exact absurd hn (Nat.lt_irrefl 0)
  | cons head tail ih =>
    cases tail with
    | refl => exact head.noCell
    | cons => exact ih (Nat.succ_pos _)

/-- The ticks of a quiet run up to any of them are a quiet run. -/
theorem QuietRun.upTo (h : QuietRun n s t) {k : Nat} (hk : k ≤ n) : ∃ r, QuietRun k s r := by
  induction h generalizing k with
  | refl s => exact ⟨s, Nat.le_zero.1 hk ▸ .refl s⟩
  | @cons n s t u head _ ih =>
    cases k with
    | zero => exact ⟨s, .refl s⟩
    | succ k =>
      obtain ⟨r, hr⟩ := ih (Nat.le_of_succ_le_succ hk)
      exact ⟨r, .cons head hr⟩

theorem QuietRun.cfg (h : QuietRun n s t) : t.cfg = s.cfg := (runTicks_environment h.runTicks).1

theorem QuietRun.pinsAt (h : QuietRun n s t) (k : Nat) : t.pinsAt k = s.pinsAt (n + k) :=
  (runTicks_environment h.runTicks).2.2 k

/-- A quiet run of `n` ticks, from a step that leads from each member of a family of positions to the next lower one. -/
theorem quietRun_countdown {P : Nat → State → Prop} {ok : Pins → Prop}
    (hstep : ∀ {k : Nat} {s : State}, P (k + 1) s → ok s.pins → ∃ t, QuietStep s t ∧ P k t)
    (hs : P (m + n) s) (hok : ∀ k < n, ok (s.pinsAt k)) : ∃ t, QuietRun n s t ∧ P m t := by
  induction n generalizing s with
  | zero => exact ⟨s, .refl s, hs⟩
  | succ n ih =>
    obtain ⟨r, hr, hP⟩ := hstep hs (hok 0 (Nat.succ_pos n))
    obtain ⟨t, ht, hPt⟩ := ih hP fun k hk => by
      rw [step_pinsAt hr.next]
      exact hok (k + 1) (Nat.succ_lt_succ hk)
    exact ⟨t, .cons hr ht, hPt⟩

end

/-! ### One tick at each position outside the capture -/

/-- WAIT_RISE with `g` ticks of the guard left (R19). -/
structure State.GuardLeft (g : Nat) (s : State) : Prop where
  st : s.st = .waitRise
  guard : s.guard.toNat = g

/-- SAMPLE with `d` ticks of the delay left (R20). -/
structure State.DelayLeft (d : Nat) (s : State) : Prop where
  st : s.st = .sample
  dly : s.dly.toNat = d

section
variable (s : State)

@[simp] theorem dispatched_cfg_guard : s.beginTick.dispatched.cfg.guard.toNat = s.cfg.guard.toNat :=
  congrArg (fun c : Config => c.guard.toNat) (dispatched_cfg s.beginTick)

@[simp] theorem dispatched_cfg_delay : s.beginTick.dispatched.cfg.delay.toNat = s.cfg.delay.toNat :=
  congrArg (fun c : Config => c.delay.toNat) (dispatched_cfg s.beginTick)

@[simp] theorem dispatched_cfg_window : s.beginTick.dispatched.cfg.window.toNat = s.cfg.window.toNat :=
  congrArg (fun c : Config => c.window.toNat) (dispatched_cfg s.beginTick)

@[simp] theorem dispatched_cfg_delayResp : s.beginTick.dispatched.cfg.delayResp.toNat = s.cfg.delayResp.toNat :=
  congrArg (fun c : Config => c.delayResp.toNat) (dispatched_cfg s.beginTick)

theorem dispatched_guard_eq_zero_iff : s.beginTick.dispatched.guard = 0#_ ↔ s.guard.toNat = 0 := by
  rw [countdown_eq_zero, dispatched_guard]
  exact Iff.rfl

theorem dispatched_dly_eq_zero_iff : s.beginTick.dispatched.dly = 0#_ ↔ s.dly.toNat = 0 := by
  rw [countdown_eq_zero, dispatched_dly]
  exact Iff.rfl

theorem dispatched_win_eq_zero_iff : s.beginTick.dispatched.win = 0#_ ↔ s.win.toNat = 0 := by
  rw [countdown_eq_zero, dispatched_win]
  exact Iff.rfl

end

section
variable {s : State}

theorem quietStep_hold (hr : s.pins.rst = false) (hst : s.st = .huntReset ∨ s.st = .waitFall) (hl : s.line = true) :
    ∃ t, QuietStep s t ∧ SamplerAgrees s t := by
  have move : SamplerMove s s.beginTick.dispatched s.beginTick.dispatched :=
    hst.elim (.huntHolds · (by simpa using hl)) (.fallHolds · (by simpa using hl))
  exact ⟨_, quietStep_of_move hr move (by simp), { samplerAgrees_dispatched s with }⟩

theorem quietStep_guardLoads (hr : s.pins.rst = false) (hst : s.st = .huntReset) (hl : s.line = false) :
    ∃ t, QuietStep s t ∧ t.GuardLeft s.cfg.guard.toNat :=
  ⟨_, quietStep_of_move hr (.guardLoads hst (by simpa using hl)) (by simp), rfl, by simp⟩

theorem quietStep_guardCounts {g : Nat} (hs : s.GuardLeft (g + 1)) (hr : s.pins.rst = false) (hl : s.line = false) :
    ∃ t, QuietStep s t ∧ t.GuardLeft g := by
  have hg : s.beginTick.dispatched.guard ≠ 0#_ := by rw [Ne, dispatched_guard_eq_zero_iff, hs.guard]; omega
  refine ⟨_, quietStep_of_move hr (.guardCounts hs.st (by simpa using hl) hg) (by simp), by simpa using hs.st, ?_⟩
  simp [countdown_pred hg, hs.guard]

theorem quietStep_rises (hr : s.pins.rst = false) (hst : s.st = .waitRise) (hl : s.line = true) :
    ∃ t, QuietStep s t ∧ t.st = .waitFall :=
  ⟨_, quietStep_of_move hr (.rises hst (by simpa using hl)) (by simp), rfl⟩

theorem quietStep_falls (hr : s.pins.rst = false) (hst : s.st = .waitFall) (hl : s.line = false) :
    ∃ t, QuietStep s t ∧ t.DelayLeft s.cfg.delay.toNat :=
  ⟨_, quietStep_of_move hr (.falls hst (by simpa using hl)) (by simp), rfl, by simp⟩

theorem quietStep_delayCounts {d : Nat} (hs : s.DelayLeft (d + 1)) (hr : s.pins.rst = false) :
    ∃ t, QuietStep s t ∧ t.DelayLeft d := by
  have hd : s.beginTick.dispatched.dly ≠ 0#_ := by rw [Ne, dispatched_dly_eq_zero_iff, hs.dly]; omega
  refine ⟨_, quietStep_of_move hr (.delayCounts hs.st hd) (by simp), by simpa using hs.st, ?_⟩
  simp [countdown_pred hd, hs.dly]

/-- The expiry of the guard: a RESET cell, and the partial word is discarded (R63, R82). -/
theorem step_guardExpires (hs : s.GuardLeft 0) (hr : s.pins.rst = false) (hl : s.line = false) :
    ∃ t, step s = .next t ∧ t.st = .huntReset ∧ t.tap = some ⟨.reset, .host⟩ ∧ t.sr = 0#16 ∧ t.cnt = 0#4 := by
  have move := SamplerMove.guardExpires (p := s) (a := s.beginTick.dispatched) hs.st (by simpa using hl)
    ((dispatched_guard_eq_zero_iff s).2 hs.guard)
  refine ⟨_, step_of_move hr move, ?_⟩
  rw [assembled_of_reset (emit_tap _ _ _)]
  exact ⟨rfl, rfl, rfl, rfl⟩

/-- The state after the tick that samples the bit `b`: its cell is on the wires, and it is pushed (R65, R66, R78). -/
def State.sampled (s : State) (b : Bool) : State :=
  ((s.beginTick.dispatched.afterSample.emit (dataCell b) .host).pushBit b).endTick

theorem step_samples (hs : s.DelayLeft 0) (hr : s.pins.rst = false) : step s = .next (s.sampled s.line) := by
  have move := SamplerMove.samples (p := s) (a := s.beginTick.dispatched) hs.st
    ((dispatched_dly_eq_zero_iff s).2 hs.dly)
  rw [step_of_move hr move, beginTick_dispatched_line, assembled_of_data (emit_tap _ _ _)]
  rfl

@[simp] theorem sampled_tap (b : Bool) : (s.sampled b).tap = some ⟨dataCell b, .host⟩ := by simp [State.sampled]

@[simp] theorem sampled_st (b : Bool) :
    (s.sampled b).st = if s.entersCapture then .captureResponse else .huntReset := by
  simp [State.sampled, State.entersCapture]

/-- A sample that completes no word goes back to HUNT_RESET with one bit more. -/
theorem sampled_partial (b : Bool) (hc : s.cnt ≠ 15#4) :
    (s.sampled b).st = .huntReset ∧ (s.sampled b).cnt = s.cnt + 1#4 ∧ (s.sampled b).sr = shiftIn s.sr b ∧
      enqueued (s.sampled b).events = [] := by
  refine ⟨by simp [State.entersCapture, hc], ?_⟩
  rw [State.sampled, pushBit_partial b (by simpa using hc)]
  exact ⟨by simp, by simp, by simp [dispatched_enqueued, enqueued]⟩

/-- A sample that completes a word enqueues it, and a BIDIR build opens the capture window (R71, R83). -/
theorem sampled_full (b : Bool) (hc : s.cnt = 15#4) :
    (s.sampled b).st = (if s.cfg.variant = .bidir then .captureResponse else .huntReset) ∧ (s.sampled b).cnt = 0#4 ∧
      enqueued (s.sampled b).events = [shiftIn s.sr b] ∧ Event.enqueue (shiftIn s.sr b) ∈ (s.sampled b).events ∧
      (s.sampled b).q.getLast? = some (shiftIn s.sr b) := by
  refine ⟨by simp [State.entersCapture, hc], ?_⟩
  have push := pushBit_completes (s := s.beginTick.dispatched.afterSample.emit (dataCell b) .host) b (by simpa using hc)
  simpa [State.sampled, dispatched_enqueued, enqueued] using push

/-- The window of a BIDIR build opens at the first phase with its start value (R71). -/
theorem sampled_opens_window (b : Bool) (hc : s.cnt = 15#4) (hb : s.cfg.variant = .bidir) :
    (s.sampled b).cph = .capWaitLow ∧ (s.sampled b).win.toNat = s.cfg.window.toNat := by
  have he : s.beginTick.dispatched.entersCapture = true := (entersCapture_iff _).2 (by simp [hc, hb])
  simp [State.sampled, he]

end

end Sys2Proof.Machine
end

section
/-! Waveforms outside the capture (R68, R125): a line that stays high, a long low line, and a pulse. -/

namespace Sys2Proof.Machine

/-! ### The pins of a run -/

section
variable {s t : State} {n m a : Nat} {level : Bool}

theorem QuietRun.noReset (h : QuietRun n s t) (hs : s.NoReset (n + m)) : t.NoReset m := fun k hk => by
  rw [h.pinsAt]
  exact hs _ (by omega)

theorem QuietRun.lineIs (h : QuietRun n s t) (hs : s.LineIs (n + a) m level) : t.LineIs a m level := fun k hk hk' => by
  rw [h.pinsAt]
  exact hs _ (by omega) (by omega)

/-- After a quiet run the rest of a level is left. -/
theorem QuietRun.lineIs_rest (h : QuietRun n s t) (hs : s.LineIs 0 (n + m) level) : t.LineIs 0 m level :=
  h.lineIs fun k hk hk' => hs k (Nat.zero_le k) (by omega)

theorem State.NoReset.le (hs : s.NoReset n) (h : m ≤ n) : s.NoReset m := fun k hk => hs k (by omega)

theorem State.LineIs.head (hs : s.LineIs 0 (n + 1) level) : s.line = level := hs 0 (Nat.le_refl 0) (by omega)

theorem State.LineIs.le (hs : s.LineIs a n level) (h : m ≤ n) : s.LineIs a m level :=
  fun k hk hk' => hs k hk (by omega)

/-- No reset and a line at one level, tick by tick. -/
theorem pins_of_noReset_lineIs (hr : s.NoReset n) (hl : s.LineIs 0 n level) :
    ∀ k < n, (s.pinsAt k).rst = false ∧ (s.pinsAt k).line = level :=
  fun k hk => ⟨hr k hk, hl k (Nat.zero_le k) (by omega)⟩

end

/-! ### Phases -/

section
variable {s : State} {n : Nat}

theorem quietRun_hold (hst : s.st = .huntReset ∨ s.st = .waitFall) (hr : s.NoReset n) (hl : s.LineIs 0 n true) :
    ∃ t, QuietRun n s t ∧ SamplerAgrees s t := by
  have same : SamplerAgrees s s := ⟨rfl, rfl, rfl, rfl, rfl, rfl, rfl, rfl⟩
  refine quietRun_countdown (P := fun _ => SamplerAgrees s) (m := 0) (ok := fun p => p.rst = false ∧ p.line = true)
    (fun hs hp => ?_) same (pins_of_noReset_lineIs hr hl)
  obtain ⟨t, ht, hagree⟩ := quietStep_hold hp.1 (hs.st ▸ hst) hp.2
  exact ⟨t, ht, hs.trans hagree⟩

/-- A low line runs the guard down (R63). -/
theorem quietRun_guard {g : Nat} (hs : s.GuardLeft (g + n)) (hr : s.NoReset n) (hl : s.LineIs 0 n false) :
    ∃ t, QuietRun n s t ∧ t.GuardLeft g :=
  quietRun_countdown (P := State.GuardLeft) (ok := fun p => p.rst = false ∧ p.line = false)
    (fun hs hp => quietStep_guardCounts hs hp.1 hp.2) hs (pins_of_noReset_lineIs hr hl)

/-- The delay runs down whatever the line does (R65). -/
theorem quietRun_delay {d : Nat} (hs : s.DelayLeft (d + n)) (hr : s.NoReset n) :
    ∃ t, QuietRun n s t ∧ t.DelayLeft d :=
  quietRun_countdown (P := State.DelayLeft) (ok := fun p => p.rst = false) quietStep_delayCounts hs hr

/-- From HUNT_RESET a line low for `n + 1` ticks leaves `GUARD - n` of the guard (R62, R63). -/
theorem quietRun_low {g : Nat} (hst : s.st = .huntReset) (hg : s.cfg.guard.toNat = g + n) (hr : s.NoReset (n + 1))
    (hl : s.LineIs 0 (n + 1) false) : ∃ t, QuietRun (n + 1) s t ∧ t.GuardLeft g := by
  obtain ⟨r, hsr, hguard⟩ := quietStep_guardLoads hr.rst hst hl.head
  rw [hg] at hguard
  rw [Nat.add_comm n 1] at hr hl ⊢
  obtain ⟨t, hrt, ht⟩ := quietRun_guard hguard (hsr.run.noReset hr) (hsr.run.lineIs_rest hl)
  exact ⟨t, hsr.run.trans hrt, ht⟩

/-- From WAIT_RISE a line high for `n + 1` ticks leads to WAIT_FALL (R63, R64). -/
theorem quietRun_high (hst : s.st = .waitRise) (hr : s.NoReset (n + 1)) (hl : s.LineIs 0 (n + 1) true) :
    ∃ t, QuietRun (n + 1) s t ∧ t.st = .waitFall := by
  obtain ⟨r, hsr, hfall⟩ := quietStep_rises hr.rst hst hl.head
  rw [Nat.add_comm n 1] at hr hl ⊢
  obtain ⟨t, hrt, hagree⟩ := quietRun_hold (.inr hfall) (hsr.run.noReset hr) (hsr.run.lineIs_rest hl)
  exact ⟨t, hsr.run.trans hrt, hagree.st ▸ hfall⟩

/-- A low, high, low pulse leads to the tick that samples, `1 + DELAY` ticks after the fall (R68 b, c). -/
theorem quietRun_pulse {a b : Nat} (hst : s.st = .huntReset) (ha : 1 ≤ a) (ha' : a ≤ s.cfg.guard.toNat + 1) (hb : 1 ≤ b)
    (hr : s.NoReset (a + b + 1 + s.cfg.delay.toNat)) (hlow : s.LineIs 0 a false) (hhigh : s.LineIs a b true)
    (hfall : s.LineIs (a + b) 1 false) : ∃ t, QuietRun (a + b + 1 + s.cfg.delay.toNat) s t ∧ t.DelayLeft 0 := by
  obtain ⟨a, rfl⟩ : ∃ k, a = k + 1 := ⟨a - 1, by omega⟩
  obtain ⟨b, rfl⟩ : ∃ k, b = k + 1 := ⟨b - 1, by omega⟩
  obtain ⟨r, hsr, hguard⟩ := quietRun_low (g := s.cfg.guard.toNat - a) hst (by omega) (hr.le (by omega)) hlow
  obtain ⟨u, hru, hwait⟩ := quietRun_high hguard.st
    (hsr.noReset (m := b + 1) (hr.le (by omega))) (hsr.lineIs (a := 0) hhigh)
  have hsu := hsr.trans hru
  obtain ⟨v, huv, hdelay⟩ := quietStep_falls (hsu.noReset (m := 1) (hr.le (by omega))).rst hwait
    (hsu.lineIs (a := 0) hfall).head
  have hsv := hsu.trans huv.run
  rw [hsu.cfg, ← Nat.zero_add s.cfg.delay.toNat] at hdelay
  obtain ⟨t, hvt, ht⟩ := quietRun_delay hdelay (hsv.noReset hr)
  exact ⟨t, hsv.trans hvt, ht⟩

end

/-! ### The statements -/

/-- Settles O47: no register of the Sampler's side changes in a tick that holds. -/
theorem highLineHoldsSampler : Obligations.HighLineHoldsSampler := by
  unfold Obligations.HighLineHoldsSampler
  intro s n hst hr hl
  obtain ⟨t, hrun, hagree⟩ := quietRun_hold hst hr hl
  exact ⟨t, hrun.runTicks, hagree, hrun.noCell⟩

/-- Settles O48: `GUARD + 1` quiet ticks run the guard down, and the next one expires. -/
theorem longLowLineEmitsResetCell : Obligations.LongLowLineEmitsResetCell := by
  unfold Obligations.LongLowLineEmitsResetCell
  intro s hst hr hl
  obtain ⟨r, hsr, hguard⟩ := quietRun_low (n := s.cfg.guard.toNat) (g := 0) hst (Nat.zero_add _).symm
    (hr.le (by omega)) (hl.le (by omega))
  refine ⟨?_, fun k hk hk' => ?_⟩
  · obtain ⟨t, hrt, ht⟩ := step_guardExpires hguard (hsr.noReset (m := 1) hr).rst
      (hsr.lineIs_rest (m := 1) hl).head
    exact ⟨t, (runTicks_add hsr.runTicks 1).trans (runTicks_succ hrt 0), ht⟩
  · obtain ⟨u, hu⟩ := hsr.upTo (k := k) (by omega)
    exact ⟨u, hu.runTicks, hu.noCell hk, hu.keeps.2⟩

/-- Settles O49: the pulse leads to the tick that samples, without a cell before it. -/
theorem pulseEmitsOneCellAfterDelay : Obligations.PulseEmitsOneCellAfterDelay := by
  unfold Obligations.PulseEmitsOneCellAfterDelay
  intro s a b hst ha ha' hb hr hlow hhigh hfall
  obtain ⟨r, hsr, hsample⟩ := quietRun_pulse hst ha ha' hb (hr.le (by omega)) hlow hhigh hfall
  have hlen : a + b + s.cfg.delay.toNat + 2 = (a + b + 1 + s.cfg.delay.toNat) + 1 := by omega
  rw [hlen] at hr ⊢
  refine ⟨?_, fun k hk hk' => ?_⟩
  · have hrt := step_samples hsample (hsr.noReset hr).rst
    have hline : r.line = (s.pinsAt (a + b + 1 + s.cfg.delay.toNat)).line := congrArg Pins.line (hsr.pinsAt 0)
    refine ⟨_, (runTicks_add hsr.runTicks 1).trans (runTicks_succ hrt 0), by rw [sampled_tap, hline], ?_⟩
    rw [sampled_st]
    split <;> simp
  · obtain ⟨u, hu⟩ := hsr.upTo (k := k) (by omega)
    exact ⟨u, hu.runTicks, hu.noCell hk⟩

/-- Settles O45: the tick that samples with fifteen bits pending. -/
theorem sixteenthSampleOpensCaptureWindow : Obligations.SixteenthSampleOpensCaptureWindow := by
  unfold Obligations.SixteenthSampleOpensCaptureWindow
  intro s hr hst hd hc
  obtain ⟨hst', hcnt, _, hmem, _⟩ := sampled_full s.line hc
  refine ⟨_, step_samples ⟨hst, (countdown_eq_zero _).1 hd⟩ hr, hcnt, shiftIn_eq _ _ ▸ hmem, fun hb => ?_, fun hu => ?_⟩
  · exact ⟨by rw [hst', if_pos hb], sampled_opens_window s.line hc hb⟩
  · rw [hst', if_neg (by simp [hu])]

end Sys2Proof.Machine
end

section
/-! The response capture (R72 to R76): its ticks, an unanswered window, and the end of every capture. -/

namespace Sys2Proof.Machine

/-! ### One tick of the capture -/

/-- A waiting phase of the capture with `w` ticks of the window left (R21). -/
structure State.WindowLeft (cph : CapPhase) (w : Nat) (s : State) : Prop where
  bidir : s.cfg.variant = .bidir
  st : s.st = .captureResponse
  cph : s.cph = cph
  win : s.win.toNat = w

/-- CAP_DELAY with `d` ticks of the longer delay left (R20). -/
structure State.ResponseLeft (d : Nat) (s : State) : Prop where
  bidir : s.cfg.variant = .bidir
  st : s.st = .captureResponse
  cph : s.cph = .capDelay
  dly : s.dly.toNat = d

section
variable {s : State} {c : CapPhase} {w d : Nat}

theorem quietStep_windowCounts (hs : s.WindowLeft c (w + 1)) (hc : c ≠ .capDelay) (hr : s.pins.rst = false)
    (hl : s.line = decide (c = .capWaitLow)) : ∃ t, QuietStep s t ∧ t.WindowLeft c w := by
  obtain ⟨hb, hst, rfl, hwin⟩ := hs
  have hw : s.beginTick.dispatched.win ≠ 0#_ := by rw [Ne, dispatched_win_eq_zero_iff, hwin]; omega
  refine ⟨_, quietStep_of_move hr (.windowCounts hst hc (by simpa using hb) (by simpa using hl) hw) (by simp), ?_⟩
  exact ⟨by simpa using hb, by simpa using hst, by simp, by simp [countdown_pred hw, hwin]⟩

/-- The expiry: a RESET cell, the partial word discarded, and the event of the window (R75, R82). -/
theorem step_windowExpires (hs : s.WindowLeft c 0) (hc : c ≠ .capDelay) (hr : s.pins.rst = false)
    (hl : s.line = decide (c = .capWaitLow)) :
    ∃ t, step s = .next t ∧ t.st = .huntReset ∧ t.cph = .capWaitLow ∧ t.win.toNat = 0 ∧ t.cnt = 0#4 ∧
      t.tap = some ⟨.reset, .host⟩ ∧ Event.windowExpired ∈ t.events := by
  obtain ⟨hb, hst, rfl, hwin⟩ := hs
  have move := SamplerMove.windowExpires (p := s) (a := s.beginTick.dispatched) hst hc (by simpa using hb)
    (by simpa using hl) ((dispatched_win_eq_zero_iff s).2 hwin)
  refine ⟨_, step_of_move hr move, ?_⟩
  rw [assembled_of_reset (expire_tap _)]
  exact ⟨rfl, rfl, by simp [hwin], rfl, rfl, by simp⟩

theorem quietStep_captureFalls (hs : s.WindowLeft .capWaitLow w) (hr : s.pins.rst = false) (hl : s.line = false) :
    ∃ t, QuietStep s t ∧ t.WindowLeft .capWaitHigh w := by
  obtain ⟨hb, hst, hcph, hwin⟩ := hs
  refine ⟨_, quietStep_of_move hr (.captureFalls hst hcph (by simpa using hb) (by simpa using hl)) (by simp), ?_⟩
  exact ⟨by simpa using hb, by simpa using hst, rfl, by simp [hwin]⟩

theorem quietStep_captureRises (hs : s.WindowLeft .capWaitHigh w) (hr : s.pins.rst = false) (hl : s.line = true) :
    ∃ t, QuietStep s t ∧ t.ResponseLeft s.cfg.delayResp.toNat := by
  obtain ⟨hb, hst, hcph, hwin⟩ := hs
  refine ⟨_, quietStep_of_move hr (.captureRises hst hcph (by simpa using hb) (by simpa using hl)) (by simp), ?_⟩
  exact ⟨by simpa using hb, by simpa using hst, rfl, by simp⟩

theorem quietStep_responseCounts (hs : s.ResponseLeft (d + 1)) (hr : s.pins.rst = false) :
    ∃ t, QuietStep s t ∧ t.ResponseLeft d := by
  obtain ⟨hb, hst, hcph, hdly⟩ := hs
  have hd : s.beginTick.dispatched.dly ≠ 0#_ := by rw [Ne, dispatched_dly_eq_zero_iff, hdly]; omega
  refine ⟨_, quietStep_of_move hr (.responseCounts hst hcph (by simpa using hb) hd) (by simp), ?_⟩
  exact ⟨by simpa using hb, by simpa using hst, by simpa using hcph, by simp [countdown_pred hd, hdly]⟩

/-- The tick that samples the response, whole: the cell of the line level, pushed (R74, R78). -/
theorem step_responds (hs : s.ResponseLeft 0) (hr : s.pins.rst = false) :
    step s = .next (((({ s.beginTick.dispatched with win := 0#_, cph := .capWaitLow, st := .huntReset } : State).emit
      (dataCell s.line) .resp).pushBit s.line).endTick) := by
  have move := SamplerMove.responds (p := s) (a := s.beginTick.dispatched) hs.st hs.cph (by simpa using hs.bidir)
    ((dispatched_dly_eq_zero_iff s).2 hs.dly)
  rw [step_of_move hr move, beginTick_dispatched_line, assembled_of_data (emit_tap _ _ _)]

theorem shiftIn_getLsbD_zero (x : Word) (b : Bool) : (shiftIn x b).getLsbD 0 = b := by
  cases b <;> simp [shiftIn, bitWord]

/-- With no bit pending the response bit is the first of a new word (R74, R127). -/
theorem step_responds_first (hs : s.ResponseLeft 0) (hr : s.pins.rst = false) (hc : s.cnt = 0#4) :
    ∃ t, step s = .next t ∧ t.tap = some ⟨dataCell s.line, .resp⟩ ∧ t.st = .huntReset ∧ t.cph = .capWaitLow ∧
      t.win.toNat = 0 ∧ t.cnt = 1#4 ∧ t.sr.getLsbD 0 = s.line ∧ Event.cell (dataCell s.line) .resp ∈ t.events ∧
      ∀ x, Event.enqueue x ∉ t.events := by
  refine ⟨_, step_responds hs hr, ?_⟩
  rw [pushBit_partial s.line (by simp [hc])]
  have hnone (x : Word) : Event.enqueue x ∉ s.beginTick.dispatched.events :=
    (dispatched_ranks s).not_mem (.inr (by simp [Event.rank]))
  exact ⟨rfl, rfl, rfl, by simp, by simp [hc], shiftIn_getLsbD_zero _ _, by simp, fun x => by simp [hnone]⟩

end

/-- Settles O46: by R29 d no bit is pending in the capture. -/
theorem responseBitOpensNextWord : Obligations.ResponseBitOpensNextWord := by
  unfold Obligations.ResponseBitOpensNextWord
  intro s hs hr hst hcph hd
  have hb : s.cfg.variant = .bidir := by
    cases hv : s.cfg.variant
    · exact absurd hst (hs.uni hv).1
    · rfl
  obtain ⟨t, hstep, htap, htst, _, hwin, hcnt, hsr, _, hnone⟩ :=
    step_responds_first ⟨hb, hst, hcph, (countdown_eq_zero _).1 hd⟩ hr (hs.capture hst)
  exact ⟨t, hstep, htap, htst, hwin, hcnt, hsr, hnone⟩

/-! ### An unanswered window (R76, R72) -/

/-- A high line runs the window down (R72). -/
theorem quietRun_window {s : State} {n w : Nat} (hs : s.WindowLeft .capWaitLow (w + n)) (hr : s.NoReset n)
    (hl : s.LineIs 0 n true) : ∃ t, QuietRun n s t ∧ t.WindowLeft .capWaitLow w :=
  quietRun_countdown (P := State.WindowLeft .capWaitLow) (ok := fun p => p.rst = false ∧ p.line = true)
    (fun hs hp => quietStep_windowCounts hs (by decide) hp.1 hp.2) hs (pins_of_noReset_lineIs hr hl)

/-- Settles O53: the window counts down to 0, and the next high tick expires. -/
theorem unansweredWindowExpires : Obligations.UnansweredWindowExpires := by
  unfold Obligations.UnansweredWindowExpires
  intro s hb hst hcph hwin hr hl
  have waits (k : Nat) (hk : k ≤ s.cfg.window.toNat) :
      ∃ u, QuietRun k s u ∧ u.WindowLeft .capWaitLow (s.cfg.window.toNat - k) :=
    quietRun_window ⟨hb, hst, hcph, by rw [hwin]; omega⟩ (hr.le (by omega)) (hl.le (by omega))
  refine ⟨fun k hk => ?_, ?_⟩
  · obtain ⟨u, hu, hleft⟩ := waits k hk
    exact ⟨u, hu.runTicks, hleft.st, hleft.cph, by rw [hleft.win]; omega⟩
  · obtain ⟨u, hu, hleft⟩ := waits _ (Nat.le_refl _)
    rw [Nat.sub_self] at hleft
    obtain ⟨t, ht, htst, _, _, hcnt, htap, hexp⟩ := step_windowExpires hleft (by decide)
      (hu.noReset (m := 1) hr).rst (hu.lineIs_rest (m := 1) hl).head
    exact ⟨t, (runTicks_add hu.runTicks 1).trans (runTicks_succ ht 0), htst, hcnt, htap, hexp⟩

/-! ### Every capture ends (R76) -/

/-- A capture has ended in this tick, by its expiry or with its response. -/
structure State.CaptureEnded (s : State) : Prop where
  st : s.st = .huntReset
  cph : s.cph = .capWaitLow
  win : s.win.toNat = 0
  how : (s.cnt = 0#4 ∧ Event.windowExpired ∈ s.events) ∨ (s.cnt = 1#4 ∧ ∃ c, Event.cell c .resp ∈ s.events)

/-- The capture of `s` ends within `n` ticks. -/
def State.EndsWithin (n : Nat) (s : State) : Prop := ∃ k t, k ≤ n ∧ runTicks k s = .next t ∧ t.CaptureEnded

section
variable {s t : State} {n m w : Nat}

theorem State.EndsWithin.le (h : s.EndsWithin n) (hnm : n ≤ m) : s.EndsWithin m := by
  obtain ⟨k, t, hk, hrun, ht⟩ := h
  exact ⟨k, t, hk.trans hnm, hrun, ht⟩

theorem QuietRun.endsWithin (h : QuietRun n s t) (ht : t.EndsWithin m) : s.EndsWithin (n + m) := by
  obtain ⟨k, u, hk, hrun, hu⟩ := ht
  exact ⟨n + k, u, Nat.add_le_add_left hk n, (runTicks_add h.runTicks k).trans hrun, hu⟩

theorem endsWithin_of_expiry {c : CapPhase} (hs : s.WindowLeft c 0) (hc : c ≠ .capDelay) (hr : s.pins.rst = false)
    (hl : s.line = decide (c = .capWaitLow)) : s.EndsWithin 1 := by
  obtain ⟨t, ht, hst, hcph, hwin, hcnt, _, hexp⟩ := step_windowExpires hs hc hr hl
  exact ⟨1, t, Nat.le_refl 1, runTicks_succ ht 0, hst, hcph, hwin, .inl ⟨hcnt, hexp⟩⟩

/-- The longer delay runs down without the window, whatever the line does (R74). -/
theorem quietRun_response {d : Nat} (hs : s.ResponseLeft (d + n)) (hr : s.NoReset n) :
    ∃ t, QuietRun n s t ∧ t.ResponseLeft d :=
  quietRun_countdown (P := State.ResponseLeft) (ok := fun p => p.rst = false) quietStep_responseCounts hs hr

/-- Once the device has answered, the response is sampled when the longer delay has run down (R74). -/
theorem endsWithin_of_responseLeft (hs : s.ResponseLeft n) (hc : s.cnt = 0#4) (hr : s.NoReset (n + 1)) :
    s.EndsWithin (n + 1) := by
  rw [← Nat.zero_add n] at hs
  obtain ⟨r, hsr, hleft⟩ := quietRun_response hs (hr.le (Nat.le_succ n))
  obtain ⟨t, ht, _, hst, hcph, hwin, hcnt, _, hcell, _⟩ :=
    step_responds_first hleft (hsr.noReset (m := 1) hr).rst (hsr.keeps.2.trans hc)
  exact hsr.endsWithin ⟨1, t, Nat.le_refl 1, runTicks_succ ht 0, hst, hcph, hwin, .inr ⟨hcnt, _, hcell⟩⟩

/-- A waiting phase ends with the capture if what follows its advance does: until then the window runs down to its
expiry (R72, R73). -/
theorem endsWithin_of_waiting {cfg : Config} {c : CapPhase} (hc : c ≠ .capDelay) (hn : 1 ≤ n)
    (advance : ∀ {s : State} {w : Nat}, s.cfg = cfg → s.WindowLeft c w → s.cnt = 0#4 → s.NoReset (w + n) →
      s.line ≠ decide (c = .capWaitLow) → s.EndsWithin (w + n))
    (hcfg : s.cfg = cfg) (hs : s.WindowLeft c w) (hcnt : s.cnt = 0#4) (hr : s.NoReset (w + n)) :
    s.EndsWithin (w + n) := by
  have hrst : s.pins.rst = false := hr 0 (by omega)
  by_cases hl : s.line = decide (c = .capWaitLow)
  · induction w generalizing s with
    | zero => exact (endsWithin_of_expiry hs hc hrst hl).le (by omega)
    | succ w ih =>
      obtain ⟨t, ht, hleft⟩ := quietStep_windowCounts hs hc hrst hl
      have hcfg' : t.cfg = cfg := ht.run.cfg.trans hcfg
      have hcnt' : t.cnt = 0#4 := ht.keeps.2.1.trans hcnt
      have hr' : t.NoReset (w + n) := ht.run.noReset (hr.le (by omega))
      refine (ht.run.endsWithin (m := w + n) ?_).le (by omega)
      by_cases hl' : t.line = decide (c = .capWaitLow)
      · exact ih hcfg' hleft hcnt' hr' (hr' 0 (by omega)) hl'
      · exact advance hcfg' hleft hcnt' hr' hl'
  · exact advance hcfg hs hcnt hr hl

/-- With the device's low seen: it rises, or the window runs out (R73). -/
theorem endsWithin_of_capWaitHigh {cfg : Config} (hcfg : s.cfg = cfg) (hs : s.WindowLeft .capWaitHigh w)
    (hcnt : s.cnt = 0#4) (hr : s.NoReset (w + (cfg.delayResp.toNat + 2))) :
    s.EndsWithin (w + (cfg.delayResp.toNat + 2)) := by
  refine endsWithin_of_waiting (by decide) (by omega) (fun hcfg hs hcnt hr hl => ?_) hcfg hs hcnt hr
  obtain ⟨t, ht, hleft⟩ := quietStep_captureRises hs (hr 0 (by omega)) (by simpa using hl)
  rw [hcfg] at hleft
  have hend := endsWithin_of_responseLeft hleft (ht.keeps.2.1.trans hcnt) (ht.run.noReset (hr.le (by omega)))
  exact (ht.run.endsWithin hend).le (by omega)

/-- From the first phase: the device pulls the line low, or the window runs out (R72). -/
theorem endsWithin_of_capWaitLow {cfg : Config} (hcfg : s.cfg = cfg) (hs : s.WindowLeft .capWaitLow w)
    (hcnt : s.cnt = 0#4) (hr : s.NoReset (w + (cfg.delayResp.toNat + 3))) :
    s.EndsWithin (w + (cfg.delayResp.toNat + 3)) := by
  refine endsWithin_of_waiting (by decide) (by omega) (fun hcfg hs hcnt hr hl => ?_) hcfg hs hcnt hr
  obtain ⟨t, ht, hleft⟩ := quietStep_captureFalls hs (hr 0 (by omega)) (by simpa using hl)
  have hend := endsWithin_of_capWaitHigh (ht.run.cfg.trans hcfg) hleft (ht.keeps.2.1.trans hcnt)
    (ht.run.noReset (hr.le (by omega)))
  exact (ht.run.endsWithin hend).le (by omega)

end

/-- Settles O52: from the first capture tick the window has its start value. -/
theorem captureAlwaysEnds : Obligations.CaptureAlwaysEnds := by
  unfold Obligations.CaptureAlwaysEnds
  intro s hb hst hcph hwin hcnt hr
  rw [Nat.add_assoc] at hr ⊢
  obtain ⟨k, t, hk, hrun, hended⟩ := endsWithin_of_capWaitLow rfl ⟨hb, hst, hcph, by rw [hwin]⟩ hcnt hr
  exact ⟨k, t, hk, hrun, hended.st, hended.cph, hended.win, hended.how⟩

end Sys2Proof.Machine
end

section
/-! The stimuli of R59: a frame enqueues its word, and a response its bit, at the last tick. -/

namespace Sys2Proof.Machine

/-! ### The pins of a stimulus -/

/-- The pins of a tick without reset, at a line level and in a poll mode. -/
def tickPins (mode line : Bool) : Pins := ⟨false, line, mode⟩

/-- The line of `BITO` (for a 1) and `BITZ` (for a 0): down, up, down until the sample (R59). -/
def bitLines (d : Nat) (b : Bool) : List Bool := [false, true] ++ List.replicate (d + 1) false ++ [b]

/-- The line of `RESPO` (for a 1) and `RESPZ` (for a 0): down, up until the sample (R59). -/
def responseLines (d : Nat) (b : Bool) : List Bool := [false] ++ List.replicate (d + 1) true ++ [b]

theorem pinsOf_bit (c : Config) (mode b : Bool) (rest : List Stimulus) :
    pinsOf mode ((if b then bito c else bitz c) ++ rest) =
      (bitLines c.delay.toNat b).map (tickPins mode) ++ pinsOf mode rest := by
  cases b <;> simp [pinsOf, bito, bitz, bitLines, tickPins, List.replicate_succ']

theorem pinsOf_response (c : Config) (mode b : Bool) :
    pinsOf mode (if b then respo c else respz c) = (responseLines c.delayResp.toNat b).map (tickPins mode) := by
  cases b <;> simp [pinsOf, respo, respz, responseLines, tickPins, List.replicate_succ']

theorem pinsOf_bitsStim (c : Config) (mode : Bool) (bs : List Bool) :
    pinsOf mode (bitsStim c bs) = bs.flatMap fun b => (bitLines c.delay.toNat b).map (tickPins mode) := by
  induction bs with
  | nil => rfl
  | cons b bs ih =>
    have hcons : bitsStim c (b :: bs) = (if b then bito c else bitz c) ++ bitsStim c bs := rfl
    rw [hcons, pinsOf_bit, ih, List.flatMap_cons]

theorem bitLines_length (d : Nat) (b : Bool) : (bitLines d b).length = d + 4 := by simp [bitLines]

theorem responseLines_length (d : Nat) (b : Bool) : (responseLines d b).length = d + 3 := by simp [responseLines]

section
variable {s : State} {mode b : Bool} {lines : List Bool} {rest : List Pins}

theorem pinsAt_of_lines (hs : s.stim = lines.map (tickPins mode) ++ rest) {k : Nat} {l : Bool}
    (hk : lines[k]? = some l) : s.pinsAt k = tickPins mode l := by
  have hlt : k < lines.length := (List.getElem?_eq_some_iff.1 hk).1
  rw [State.pinsAt, hs, List.getElem?_append_left (by simpa using hlt), List.getElem?_map, hk]
  rfl

theorem noReset_of_lines (hs : s.stim = lines.map (tickPins mode) ++ rest) : s.NoReset lines.length := fun k hk => by
  rw [pinsAt_of_lines hs (List.getElem?_eq_getElem hk)]
  rfl

theorem line_of_lines (hs : s.stim = lines.map (tickPins mode) ++ rest) {k : Nat} {l : Bool}
    (hk : lines[k]? = some l) : (s.pinsAt k).line = l := by
  rw [pinsAt_of_lines hs hk]
  rfl

/-! ### One bit of a frame -/

theorem bitLines_first (d : Nat) (b : Bool) :
    (bitLines d b)[0]? = some false ∧ (bitLines d b)[1]? = some true ∧ (bitLines d b)[2]? = some false := by
  simp [bitLines, List.replicate_succ]

theorem bitLines_last (d : Nat) (b : Bool) : (bitLines d b)[d + 3]? = some b := by
  simp [bitLines]

/-- The stimulus of a bit leads to the tick that samples it (R59, R68). -/
theorem quietRun_bit (hst : s.st = .huntReset)
    (hs : s.stim = (bitLines s.cfg.delay.toNat b).map (tickPins mode) ++ rest) :
    ∃ r, QuietRun (s.cfg.delay.toNat + 3) s r ∧ r.DelayLeft 0 ∧ r.pins.rst = false ∧ r.line = b := by
  have hr : s.NoReset (s.cfg.delay.toNat + 4) := bitLines_length s.cfg.delay.toNat b ▸ noReset_of_lines hs
  obtain ⟨h0, h1, h2⟩ := bitLines_first s.cfg.delay.toNat b
  have lineAt {k : Nat} {l : Bool} (hk : (bitLines s.cfg.delay.toNat b)[k]? = some l) : s.LineIs k 1 l :=
    fun j hj hj' => by
      obtain rfl : j = k := by omega
      exact line_of_lines hs hk
  obtain ⟨r, hsr, hleft⟩ := quietRun_pulse (a := 1) (b := 1) hst (Nat.le_refl 1) (by omega) (Nat.le_refl 1)
    (hr.le (by omega)) (lineAt h0) (lineAt h1) (lineAt h2)
  rw [show 1 + 1 + 1 + s.cfg.delay.toNat = s.cfg.delay.toNat + 3 by omega] at hsr
  exact ⟨r, hsr, hleft, (hsr.noReset (m := 1) hr).rst,
    (congrArg Pins.line (hsr.pinsAt 0)).trans (line_of_lines hs (bitLines_last _ b))⟩

/-- The ticks of one bit: quiet up to the last one, which samples and pushes it. -/
theorem runLog_bit (hst : s.st = .huntReset)
    (hs : s.stim = (bitLines s.cfg.delay.toNat b).map (tickPins mode) ++ rest) :
    ∃ (r : State) (es : List Event), r.cfg = s.cfg ∧ r.sr = s.sr ∧ r.cnt = s.cnt ∧ enqueued es = [] ∧
      runLog (s.cfg.delay.toNat + 4) s = some (es ++ (r.sampled b).events, r.sampled b) := by
  obtain ⟨r, hsr, hleft, hrst, hline⟩ := quietRun_bit hst hs
  obtain ⟨es, hlog, henq⟩ := hsr.runLog
  have hstep : step r = .next (r.sampled b) := hline ▸ step_samples hleft hrst
  have hlast : runLog 1 r = some ((r.sampled b).events, r.sampled b) := by
    rw [runLog_of_step hstep]
    simp [runLog]
  have hall := runLog_add hlog hlast
  exact ⟨r, es, hsr.cfg, hsr.keeps.1, hsr.keeps.2, henq, hall⟩

/-- After a run through listed pins the rest of them are left. -/
theorem stim_of_runLog {k : Nat} {t : State} {es : List Event} {ps : List Pins} (h : runLog k s = some (es, t))
    (hs : s.stim = ps ++ rest) (hk : ps.length = k) : t.stim = rest := by
  rw [(runTicks_environment (runTicks_of_runLog h)).2.1, hs, ← hk, List.drop_left]

end

/-! ### A frame -/

/-- Fewer than sixteen bits: each is pushed, and none completes a word. -/
theorem runLog_bits {d : Nat} {mode : Bool} {rest : List Pins} (bs : List Bool) (s : State) (hst : s.st = .huntReset)
    (hd : s.cfg.delay.toNat = d) (hc : s.cnt.toNat + bs.length ≤ 15)
    (hs : s.stim = (bs.flatMap fun b => (bitLines d b).map (tickPins mode)) ++ rest) :
    ∃ es t, runLog (bs.length * (d + 4)) s = some (es, t) ∧ enqueued es = [] ∧ t.cfg = s.cfg ∧ t.st = .huntReset ∧
      t.cnt.toNat = s.cnt.toNat + bs.length ∧ t.sr = shiftAll s.sr bs ∧ t.stim = rest := by
  induction bs generalizing s with
  | nil => exact ⟨[], s, by rw [List.length_nil, Nat.zero_mul]; rfl, rfl, rfl, hst, rfl, rfl, hs⟩
  | cons b bs ih =>
    rw [List.length_cons] at hc
    rw [List.flatMap_cons, List.append_assoc] at hs
    subst hd
    obtain ⟨r, es, hcfg, hsr, hcnt, henq, hlog⟩ := runLog_bit hst hs
    have hlt : r.cnt.toNat < 15 := by rw [hcnt]; omega
    obtain ⟨hst', hcnt', hsr', henq'⟩ := sampled_partial b (cnt_ne_fifteen hlt)
    have hcfg' : (r.sampled b).cfg = s.cfg := (runTicks_environment (runTicks_of_runLog hlog)).1
    have hcount : (r.sampled b).cnt.toNat = s.cnt.toNat + 1 := by rw [hcnt', cnt_succ_toNat hlt, hcnt]
    obtain ⟨fs, t, hrun, henqf, hcfgt, hstt, hcntt, hsrt, hstim⟩ := ih (r.sampled b) hst' (by rw [hcfg'])
      (by omega) (stim_of_runLog hlog hs (by simp [bitLines_length]))
    refine ⟨es ++ (r.sampled b).events ++ fs, t, ?_, ?_, hcfgt.trans hcfg', hstt, ?_, ?_, hstim⟩
    · rw [List.length_cons, Nat.succ_mul, Nat.add_comm]
      exact runLog_add hlog hrun
    · simp [henq, henq', henqf]
    · rw [hcntt, hcount, List.length_cons]
      omega
    · rw [hsrt, hsr', hsr, shiftAll_cons]

/-- Settles O50: fifteen bits of the word, and the sixteenth, which completes it. -/
theorem frameStimulusEnqueuesItsWord : Obligations.FrameStimulusEnqueuesItsWord := by
  unfold Obligations.FrameStimulusEnqueuesItsWord
  intro s w mode rest hst hc hs
  obtain ⟨init, b, hbits⟩ : ∃ init b, bitsOfWord w = init ++ [b] := by
    rcases List.eq_nil_or_concat' (bitsOfWord w) with h | h
    · simpa [h] using bitsOfWord_length w
    · exact h
  have hlen : init.length = 15 := by
    have := bitsOfWord_length w
    simpa [hbits] using this
  have hword (x : Word) : shiftIn (shiftAll x init) b = w := by
    have hall : shiftAll x (init ++ [b]) = w := by
      rw [← hbits, shiftAll_sixteen x (bitsOfWord_length w), wordOfBits_bitsOfWord]
    rw [← hall, shiftAll_append]
    rfl
  rw [frameStim, pinsOf_bitsStim, hbits, List.flatMap_append, List.append_assoc] at hs
  obtain ⟨es, r, hrun, henq, hcfg, hst', hcnt, hsr, hstim⟩ := runLog_bits init s hst rfl (by simp [hc, hlen]) hs
  rw [← hcfg, List.flatMap_cons, List.flatMap_nil, List.append_nil] at hstim
  obtain ⟨u, fs, hcfgu, hsru, hcntu, henqf, hlog⟩ := runLog_bit hst' hstim
  have hfull : u.cnt = 15#4 := BitVec.eq_of_toNat_eq (by rw [hcntu, hcnt, hc, hlen]; rfl)
  obtain ⟨hend, hzero, henqu, hmem, hlast⟩ := sampled_full b hfull
  rw [hsru, hsr, hword] at henqu hmem hlast
  have hall : runLog (16 * (s.cfg.delay.toNat + 4)) s = some (es ++ (fs ++ (u.sampled b).events), u.sampled b) := by
    rw [hcfg] at hlog
    rw [hlen] at hrun
    rw [show 16 * (s.cfg.delay.toNat + 4) = 15 * (s.cfg.delay.toNat + 4) + (s.cfg.delay.toNat + 4) by omega]
    exact runLog_add hrun hlog
  refine ⟨_, _, runTicks_of_runLog hall, hall, ?_, hmem, hzero, ?_, hlast, ?_⟩
  · simp [henq, henqf, henqu]
  · exact stim_of_runLog hlog hstim (by simp [bitLines_length])
  · rw [hend, hcfgu, hcfg]

/-! ### A response -/

theorem responseLines_first (d : Nat) (b : Bool) :
    (responseLines d b)[0]? = some false ∧ (responseLines d b)[1]? = some true := by
  simp [responseLines, List.replicate_succ]

theorem responseLines_last (d : Nat) (b : Bool) : (responseLines d b)[d + 2]? = some b := by
  simp [responseLines]

/-- Settles O51: the device's low and high are seen, the longer delay runs down, and the last tick samples. -/
theorem responseStimulusEmitsResponseCell : Obligations.ResponseStimulusEmitsResponseCell := by
  unfold Obligations.ResponseStimulusEmitsResponseCell
  intro s b mode rest hb hst hcph hc hs
  rw [pinsOf_response] at hs
  have hr : s.NoReset (s.cfg.delayResp.toNat + 3) := responseLines_length s.cfg.delayResp.toNat b ▸ noReset_of_lines hs
  obtain ⟨h0, h1⟩ := responseLines_first s.cfg.delayResp.toNat b
  obtain ⟨r, hsr, hfallen⟩ := quietStep_captureFalls ⟨hb, hst, hcph, rfl⟩ (hr 0 (by omega)) (line_of_lines hs h0)
  have hline1 : r.line = true := (congrArg Pins.line (hsr.run.pinsAt 0)).trans (line_of_lines hs h1)
  obtain ⟨u, hru, hrisen⟩ := quietStep_captureRises hfallen
    (hsr.run.noReset (m := 1) (hr.le (by omega))).rst hline1
  have hsu := hsr.run.trans hru.run
  rw [hsr.run.cfg, ← Nat.zero_add s.cfg.delayResp.toNat] at hrisen
  obtain ⟨v, huv, hleft⟩ := quietRun_response hrisen (hsu.noReset (hr.le (by omega)))
  have hsv := hsu.trans huv
  have hline2 : v.line = b := by
    refine (congrArg Pins.line (hsv.pinsAt 0)).trans (line_of_lines hs ?_)
    rw [Nat.add_zero, Nat.add_comm]
    exact responseLines_last _ b
  obtain ⟨t, hvt, htap, hstt, _, _, hcnt, _⟩ := step_responds_first hleft
    (hsv.noReset (m := 1) (hr.le (by omega))).rst (hsv.keeps.2.trans hc)
  have hrun : runTicks (s.cfg.delayResp.toNat + 3) s = .next t := by
    rw [show s.cfg.delayResp.toNat + 3 = 1 + 1 + s.cfg.delayResp.toNat + 1 by omega, runTicks_add hsv.runTicks,
      runTicks_succ hvt]
    rfl
  refine ⟨t, hrun, hline2 ▸ htap, hstt, hcnt, ?_⟩
  rw [(runTicks_environment hrun).2.1, hs, ← responseLines_length _ b]
  exact List.drop_left' (List.length_map _)

end Sys2Proof.Machine
end
